-- ==== Sys2Proof/Word.lean ====
section
/-! DEFINITION. The byte of the host link, of the device bus and of card blocks. -/

namespace Sys2Proof

/-- One byte on a line (12 Formats, section 12.1). -/
abbrev Byte := BitVec 8

/-- A card block: sixteen bytes (R101). The length is not in the type; `Request` and response checks give it. -/
abbrev Block := List Byte

/-- A card serial: seven bytes (R101). -/
abbrev Serial := List Byte

end Sys2Proof
end

