-- ==== Sys2Proof/Config.lean ====
section
/-! DEFINITION. What the spec leaves without a value: the free values of the model. Each is a constant
without a body, so nothing can be proved about which value it takes (assumption log, entry 3). -/

namespace Sys2Proof.Config

/-- The revision that IDENTIFY reports (R198). The spec states no value: FREE VALUE, log entry 3. -/
opaque revision : Byte

/-- The text of line `i` of a print job, from the facts the job is composed of (R136). The spec says which
facts a line set holds, not how they are written: FREE VALUE, log entry 3. `kind` is the job kind's code. -/
opaque lineText (kind : Nat) (facts : List Nat) (i : Nat) : List Byte

/-- The `n`-th reading of the time left on a running ticket hold timer (R150). The model counts no time
between commands: FREE VALUE, log entries 3 and 18. -/
opaque holdTimeLeft (n : Nat) : Nat

end Sys2Proof.Config
end

