-- ==== Sys2Proof/Syntax.lean ====
section
/-! DEFINITION. The commands of the block: one constructor of `Instr` per row of spec/opcode_table.json.

A host request stands for a complete frame that carries it (R199, R200): `lane` and `tag` are the frame's lane
and tag bytes, the other operands the fields of its body, as numbers before any range check. Operands of the
other commands are what the sensor, timer or line gives with the event. -/

namespace Sys2Proof

/-- The two lanes (coded 1 and 2 in frames). -/
inductive Lane where
  | a
  | b
  deriving DecidableEq, Repr

/-- The fields of a PRODUCT entry as a TABLE_WRITE carries them (R31). -/
structure ProductFields where
  id : Nat
  kind : Nat
  base : Nat
  step : Nat
  included : Nat
  zmax : Nat
  bandApplies : Nat
  ceiling : Nat
  duration : Nat
  minAmount : Nat
  maxAmount : Nat
  deriving DecidableEq, Repr

/-- The fields of an ACCEPTANCE entry (R56), as written and as stored: an entry keeps the fields it does not
read as they were written. `kind`, `laneMask` and `action` are the codes of section 12.1. -/
structure AcceptFields where
  kind : Nat
  diamLo : Nat
  diamHi : Nat
  thickLo : Nat
  thickHi : Nat
  condLo : Nat
  condHi : Nat
  code : Nat
  codeMask : Nat
  laneMask : Nat
  denom : Nat
  action : Nat
  tube : Nat
  deriving DecidableEq, Repr

/-- The operands of SALE_OPEN (R6, R209). -/
structure SaleOperands where
  product : Nat
  zones : Nat
  quantity : Nat
  concession : Nat
  delivery : Nat
  payment : Nat
  topup : Nat
  receipt : Nat
  lines : List (List Byte)
  deriving DecidableEq, Repr

/-- The entry of a TABLE_WRITE, by table (R187). -/
inductive TableEntry where
  | product (e : ProductFields)
  | concession (discount kinds : Nat)
  | band (used start stop factor : Nat)
  | tier (used threshold rate : Nat)
  | global (unit mode bmax mask : Nat)
  | acceptance (e : AcceptFields)
  | tube (denom capacity l1 l2 : Nat)
  | coinLimit (lc : Nat)
  | paper (roll low high : Nat)
  | journal (watermark wait autoOn auto : Nat)
  | timers (awaitCard inactivity window hold : Nat)
  | noticeMode (mode : Nat)
  deriving DecidableEq, Repr

/-- A request as the LKI finds it in a complete frame (R200). -/
inductive Request where
  | status
  | identify
  | clockSet (day second : Nat)
  | reset (force : Nat)
  | shutdown
  | serviceEnter
  | serviceLeave
  | tableWrite (index : Nat) (e : TableEntry)
  /-- A TABLE_WRITE whose table code is not in the catalogue of R187. -/
  | tableWriteOther (table : Nat)
  | tableRead (table index : Nat)
  | saleOpen (o : SaleOperands)
  | saleCancel
  | cardRead
  | laneRestore
  | coinInhibit (denoms : List Nat)
  | coinAudit (switch : Nat)
  | tubeRead
  | tubeSet (tube count : Nat)
  | tubeDump (tube coins : Nat)
  | recoveryList (first n : Nat)
  | recoveryDrop (n : Nat)
  | paperLoaded
  | printText (lines : List (List Byte))
  | printCancel (job : Nat)
  | printList
  | busRead
  | journalRead (offset n : Nat)
  | journalRelease (first n : Nat)
  | totalsRead (set section_ row : Nat)
  | totalsSnapshot
  /-- The code names no request of the catalogue. -/
  | unknown
  /-- The code is known and its body length is not one it allows. -/
  | badLength
  deriving DecidableEq, Repr

/-- A frame held for decoding: its code, lane and tag bytes and the request it carries (R200). -/
structure Held where
  code : Nat
  lane : Nat
  tag : Nat
  req : Request
  deriving DecidableEq, Repr

/-- What POWER_ON finds: the sections whose check value disagrees (R192) and the cashbox switch (R75). -/
structure PowerOnInputs where
  badTariff : Bool
  badAcceptance : Bool
  badParameters : Bool
  badFinancial : Bool
  cashboxClosed : Bool
  deriving DecidableEq, Repr

/-- The commands: one constructor per row of the opcode table, in the table's order. -/
inductive Instr where
  | status (lane tag : Nat)
  | identify (lane tag : Nat)
  | clockSet (lane tag day second : Nat)
  | resetWithForce (lane tag : Nat)
  | resetWithoutForce (lane tag : Nat)
  | shutdown (lane tag : Nat)
  | serviceEnter (lane tag : Nat)
  | serviceLeave (lane tag : Nat)
  | tableWriteProduct (lane tag index : Nat) (e : ProductFields)
  | tableWriteConcession (lane tag index discount kinds : Nat)
  | tableWriteBand (lane tag index used start stop factor : Nat)
  | tableWriteTier (lane tag index used threshold rate : Nat)
  | tableWriteGlobal (lane tag index unit mode bmax mask : Nat)
  | tableWriteAcceptance (lane tag index : Nat) (e : AcceptFields)
  | tableWriteTube (lane tag index denom capacity l1 l2 : Nat)
  | tableWriteCoinLimit (lane tag index lc : Nat)
  | tableWritePaper (lane tag index roll low high : Nat)
  | tableWriteJournal (lane tag index watermark wait autoOn auto : Nat)
  | tableWriteTimers (lane tag index awaitCard inactivity window hold : Nat)
  | tableWriteNoticeModes (lane tag index mode : Nat)
  | tableRead (lane tag table index : Nat)
  | saleOpen (lane tag : Nat) (o : SaleOperands)
  | saleCancel (lane tag : Nat)
  | cardRead (lane tag : Nat)
  | laneRestore (lane tag : Nat)
  | coinInhibit (lane tag : Nat) (denoms : List Nat)
  | coinAuditOn (lane tag : Nat)
  | coinAuditOff (lane tag : Nat)
  | tubeRead (lane tag : Nat)
  | tubeSet (lane tag tube count : Nat)
  | tubeDump (lane tag tube coins : Nat)
  | recoveryList (lane tag first n : Nat)
  | recoveryDrop (lane tag n : Nat)
  | paperLoaded (lane tag : Nat)
  | printText (lane tag : Nat) (lines : List (List Byte))
  | printCancel (lane tag job : Nat)
  | printList (lane tag : Nat)
  | busRead (lane tag : Nat)
  | journalRead (lane tag offset n : Nat)
  | journalRelease (lane tag first n : Nat)
  | totalsRead (lane tag set section_ row : Nat)
  | totalsSnapshot (lane tag : Nat)
  | unknownRequest (lane tag code : Nat) (body : List Byte)
  | hostByte (byte : Byte) (framingError : Bool)
  | receiveTimeout
  | transmitEnd
  | coinRecord (lane : Lane) (diam thick cond cls : Nat) (good : Bool)
  | statusRecord (lane : Lane) (blocked fault : Bool)
  | headLinkTimeout (lane : Lane)
  | jamTimerExpiry (lane : Lane)
  | jamClearTimerExpiry (lane : Lane)
  | cashboxRemoved
  | cashboxReplaced
  | escrowReleaseEntry (lane : Lane)
  | escrowReturnComplete (lane : Lane)
  | awaitCardTimeout (lane : Lane)
  | inactivityTimeout (lane : Lane)
  | preWriteWindowExpiry (lane : Lane)
  | inDoubtWindowExpiry (lane : Lane)
  | enquiryTimeout (lane : Lane)
  | cardPollTimer (lane : Lane)
  | requestSent
  | readyLow
  | readyRise
  | responseDeadline
  | responseReceived (bytes : List Byte)
  | printerStatusTimer
  | ticketHoldExpiry
  | payoutSensorConfirm
  | payoutWaitExpiry
  | waitTimerExpiry
  | clockSecond
  | dayChange
  | recoveryExpiryRetry
  | autoSnapshotDue
  | autoSnapshotRetry
  | powerOn (p : PowerOnInputs)
  | startupEnd (warningAsserted : Bool)
  | powerWarning
  | quiescedEntry
  deriving DecidableEq, Repr

end Sys2Proof
end

