-- ==== Sys2Proof/WellFormed.lean ====
section
/-! DEFINITION. Which commands can reach the part: every operand of a request fits its field's width in the
frame (section 12.1), a body has at most 240 bytes (R199), and a sensor's operand lies in the range its line
can carry (R52). -/

namespace Sys2Proof

/-- The number fits `w` bytes. -/
abbrev fits (w n : Nat) : Prop := n < 256 ^ w

/-- The frame's lane and tag bytes. -/
abbrev frameWf (lane tag : Nat) : Prop := fits 1 lane ∧ fits 1 tag

/-- Each text line's length byte can give its length, and all lines with their length bytes take `room` bytes
or fewer. -/
abbrev linesWf (room : Nat) (lines : List (List Byte)) : Prop :=
  (lines.map (fun l => l.length + 1)).sum ≤ room

abbrev ProductFields.wf (e : ProductFields) : Prop :=
  fits 1 e.id ∧ fits 1 e.kind ∧ fits 4 e.base ∧ fits 4 e.step ∧ fits 1 e.included ∧ fits 1 e.zmax ∧
  fits 1 e.bandApplies ∧ fits 4 e.ceiling ∧ fits 2 e.duration ∧ fits 4 e.minAmount ∧ fits 4 e.maxAmount

abbrev AcceptFields.wf (e : AcceptFields) : Prop :=
  fits 1 e.kind ∧ fits 2 e.diamLo ∧ fits 2 e.diamHi ∧ fits 2 e.thickLo ∧ fits 2 e.thickHi ∧ fits 2 e.condLo ∧
  fits 2 e.condHi ∧ fits 1 e.code ∧ fits 1 e.codeMask ∧ fits 1 e.laneMask ∧ fits 4 e.denom ∧ fits 1 e.action ∧
  fits 1 e.tube

/-- The SALE_OPEN body holds 12 bytes and the receipt lines (R209). -/
abbrev SaleOperands.wf (o : SaleOperands) : Prop :=
  fits 1 o.product ∧ fits 1 o.zones ∧ fits 1 o.quantity ∧ fits 1 o.concession ∧ fits 1 o.delivery ∧
  fits 1 o.payment ∧ fits 4 o.topup ∧ fits 1 o.receipt ∧ linesWf 228 o.lines

/-- The request codes of the catalogue (section 11.3). -/
def catalogue : List Nat :=
  [0x01, 0x02, 0x03, 0x04, 0x05, 0x06, 0x07, 0x08, 0x09, 0x10, 0x11, 0x12, 0x13, 0x14, 0x15, 0x20, 0x21, 0x22,
   0x28, 0x29, 0x30, 0x31, 0x32, 0x33, 0x38, 0x40, 0x41, 0x42, 0x43]

/-- A command that can reach the part. -/
abbrev Instr.wf : Instr → Prop
  | .status l t => frameWf l t
  | .identify l t => frameWf l t
  | .clockSet l t d s => frameWf l t ∧ fits 2 d ∧ fits 3 s
  | .resetWithForce l t => frameWf l t
  | .resetWithoutForce l t => frameWf l t
  | .shutdown l t => frameWf l t
  | .serviceEnter l t => frameWf l t
  | .serviceLeave l t => frameWf l t
  | .tableWriteProduct l t i e => frameWf l t ∧ fits 1 i ∧ e.wf
  | .tableWriteConcession l t i d k => frameWf l t ∧ fits 1 i ∧ fits 2 d ∧ fits 1 k
  | .tableWriteBand l t i u s e f => frameWf l t ∧ fits 1 i ∧ fits 1 u ∧ fits 3 s ∧ fits 3 e ∧ fits 2 f
  | .tableWriteTier l t i u th r => frameWf l t ∧ fits 1 i ∧ fits 1 u ∧ fits 4 th ∧ fits 2 r
  | .tableWriteGlobal l t i u m b k => frameWf l t ∧ fits 1 i ∧ fits 4 u ∧ fits 1 m ∧ fits 4 b ∧ fits 1 k
  | .tableWriteAcceptance l t i e => frameWf l t ∧ fits 1 i ∧ e.wf
  | .tableWriteTube l t i d c x y => frameWf l t ∧ fits 1 i ∧ fits 4 d ∧ fits 1 c ∧ fits 1 x ∧ fits 1 y
  | .tableWriteCoinLimit l t i c => frameWf l t ∧ fits 1 i ∧ fits 1 c
  | .tableWritePaper l t i r x y => frameWf l t ∧ fits 1 i ∧ fits 2 r ∧ fits 2 x ∧ fits 2 y
  | .tableWriteJournal l t i w x o a => frameWf l t ∧ fits 1 i ∧ fits 1 w ∧ fits 2 x ∧ fits 1 o ∧ fits 3 a
  | .tableWriteTimers l t i a n w h => frameWf l t ∧ fits 1 i ∧ fits 1 a ∧ fits 2 n ∧ fits 1 w ∧ fits 1 h
  | .tableWriteNoticeModes l t i m => frameWf l t ∧ fits 1 i ∧ fits 1 m
  | .tableRead l t x i => frameWf l t ∧ fits 1 x ∧ fits 1 i
  | .saleOpen l t o => frameWf l t ∧ o.wf
  | .saleCancel l t => frameWf l t
  | .cardRead l t => frameWf l t
  | .laneRestore l t => frameWf l t
  | .coinInhibit l t ds => frameWf l t ∧ (∀ d ∈ ds, fits 4 d) ∧ 4 * ds.length ≤ 239
  | .coinAuditOn l t => frameWf l t
  | .coinAuditOff l t => frameWf l t
  | .tubeRead l t => frameWf l t
  | .tubeSet l t n c => frameWf l t ∧ fits 1 n ∧ fits 1 c
  | .tubeDump l t n c => frameWf l t ∧ fits 1 n ∧ fits 1 c
  | .recoveryList l t f n => frameWf l t ∧ fits 1 f ∧ fits 1 n
  | .recoveryDrop l t n => frameWf l t ∧ fits 1 n
  | .paperLoaded l t => frameWf l t
  | .printText l t ls => frameWf l t ∧ linesWf 239 ls
  | .printCancel l t j => frameWf l t ∧ fits 1 j
  | .printList l t => frameWf l t
  | .busRead l t => frameWf l t
  | .journalRead l t o n => frameWf l t ∧ fits 1 o ∧ fits 1 n
  | .journalRelease l t f n => frameWf l t ∧ fits 4 f ∧ fits 1 n
  | .totalsRead l t s c r => frameWf l t ∧ fits 1 s ∧ fits 1 c ∧ fits 1 r
  | .totalsSnapshot l t => frameWf l t
  | .unknownRequest l t c b => frameWf l t ∧ c < 0x80 ∧ c ∉ catalogue ∧ b.length ≤ 240
  | .hostByte _ _ => True
  | .receiveTimeout => True
  | .transmitEnd => True
  | .coinRecord _ d t c k _ => d ≤ 1023 ∧ t ≤ 1023 ∧ c ≤ 1023 ∧ k ≤ 63
  | .statusRecord _ _ _ => True
  | .headLinkTimeout _ => True
  | .jamTimerExpiry _ => True
  | .jamClearTimerExpiry _ => True
  | .cashboxRemoved => True
  | .cashboxReplaced => True
  | .escrowReleaseEntry _ => True
  | .escrowReturnComplete _ => True
  | .awaitCardTimeout _ => True
  | .inactivityTimeout _ => True
  | .preWriteWindowExpiry _ => True
  | .inDoubtWindowExpiry _ => True
  | .enquiryTimeout _ => True
  | .cardPollTimer _ => True
  | .requestSent => True
  | .readyLow => True
  | .readyRise => True
  | .responseDeadline => True
  | .responseReceived bs => bs.length ≤ 40
  | .printerStatusTimer => True
  | .ticketHoldExpiry => True
  | .payoutSensorConfirm => True
  | .payoutWaitExpiry => True
  | .waitTimerExpiry => True
  | .clockSecond => True
  | .dayChange => True
  | .recoveryExpiryRetry => True
  | .autoSnapshotDue => True
  | .autoSnapshotRetry => True
  | .powerOn _ => True
  | .startupEnd _ => True
  | .powerWarning => True
  | .quiescedEntry => True

end Sys2Proof
end

