-- ==== Sys2Proof/Decode.lean ====
section
/-! DEFINITION. The commands that a word of the opcode table spells. No row of spec/opcode_table.json gives
any bits ("fields" is empty in all 80), so no word spells a command. The decoding of host frames, whose layout
the Formats chapter does give, is in Machine/Operands.lean. -/

namespace Sys2Proof

/-- The command whose opcode-table bits are `w`: none, since the table gives no row any bits. -/
def decodeTableWord (_nbits _w : Nat) : Option Instr := none

end Sys2Proof
end

