-- ==== Sys2Proof/Machine/State.lean ====
section
/-! DEFINITION. The state of the block: every piece of state the spec names, block by block, and
`State.reset`. INVENTORY.md lists each field with its rule and its reset value. -/

namespace Sys2Proof.Machine

/-! ## Containers -/

/-- One value per lane. -/
structure PerLane (α : Type) where
  a : α
  b : α
  deriving DecidableEq, Repr

/-- The six change tubes (R78). -/
inductive TubeNo where
  | t1
  | t2
  | t3
  | t4
  | t5
  | t6
  deriving DecidableEq, Repr

/-- One value per change tube. -/
structure PerTube (α : Type) where
  t1 : α
  t2 : α
  t3 : α
  t4 : α
  t5 : α
  t6 : α
  deriving DecidableEq, Repr

/-- The devices on the device bus: 0, 1 and 2 of R152. -/
inductive Dev where
  | frontA
  | frontB
  | printer
  deriving DecidableEq, Repr

/-- One value per device. -/
structure PerDev (α : Type) where
  frontA : α
  frontB : α
  printer : α
  deriving DecidableEq, Repr

/-- A depot clock time: day number and second of day. -/
structure Time where
  day : Nat
  second : Nat
  deriving DecidableEq, Repr

/-! ## Enumerations (section 12.1 gives their codes) -/

inductive PartState where
  | starting
  | inUse
  | service
  | shuttingDown
  | quiesced
  deriving DecidableEq, Repr

inductive LaneState where
  | idle
  | enquiry
  | recovering
  | awaitCard
  | paying
  | delivering
  | cardWait
  | payout
  | refunding
  deriving DecidableEq, Repr

inductive WaitKind where
  | preWrite
  | inDoubt
  deriving DecidableEq, Repr

inductive ServiceLevel where
  | full
  | cashOnly
  | cardOnly
  | out
  deriving DecidableEq, Repr

inductive ProductKind where
  | single
  | returnTicket
  | pass
  | topup
  deriving DecidableEq, Repr

inductive Delivery where
  | paper
  | card
  deriving DecidableEq, Repr

inductive Payment where
  | coins
  | cardValue
  deriving DecidableEq, Repr

/-- The eight ways a sale ends (R24). -/
inductive SaleOutcome where
  | completed
  | cancelled
  | timedOut
  | deliveryFailed
  | closedInDoubt
  | refusedAtCard
  | laneFault
  | interrupted
  deriving DecidableEq, Repr

/-- The reasons of a REFUSED_AT_CARD close (R8, R10). -/
inductive CardRefusal where
  | cardFull
  | cardExhausted
  | cardUnreadable
  | insufficientValue
  | zoneRange
  | inexact
  | overCeiling
  | zeroPrice
  | topupLimit
  | limit
  | amountRange
  deriving DecidableEq, Repr

inductive Rounding where
  | nearestEven
  | nearestUp
  | down
  | up
  deriving DecidableEq, Repr

/-- Status codes (section 11.2). -/
inductive Status where
  | ok
  | unknownRequest
  | badLength
  | range
  | wrongState
  | serviceState
  | shuttingDown
  | quiesced
  | notInService
  | busy
  | unknownProduct
  | badCombination
  | laneDegraded
  | clockUnset
  | journalFull
  | printerUnavailable
  | recoveryFull
  | amountRange
  | zoneRange
  | inexact
  | overCeiling
  | zeroPrice
  | tooLate
  | stillFaulty
  | tableInvalid
  | tubeNotEmpty
  | cashboxAbsent
  | noEntry
  | notCancellable
  | noJob
  | notQueued
  | sequenceMismatch
  deriving DecidableEq, Repr

/-- Why a coin is returned (R61); ESCROW counts a tray tipped out (R76). -/
inductive ReturnReason where
  | noSale
  | notPaying
  | saleClosed
  | gateClosed
  | badRead
  | unknown
  | slug
  | noChange
  | escrow
  deriving DecidableEq, Repr

/-- Where an accepted coin goes. -/
inductive Target where
  | tube (n : TubeNo)
  | cashbox
  deriving DecidableEq, Repr

inductive PassedCause where
  | inhibited
  | tubeFull
  | cashboxOut
  deriving DecidableEq, Repr

inductive OrderKind where
  | change
  | refund
  deriving DecidableEq, Repr

inductive JobKind where
  | ticket
  | note
  | receipt
  | service
  deriving DecidableEq, Repr

inductive JobOutcome where
  | printed
  | printedDespiteCancel
  | failed
  | cancelled
  | notQueued
  deriving DecidableEq, Repr

inductive PrinterState where
  | ready
  | printing
  | paperOut
  | offline
  deriving DecidableEq, Repr

inductive Paper where
  | present
  | nearEnd
  | out
  deriving DecidableEq, Repr

inductive Cover where
  | closed
  | open
  deriving DecidableEq, Repr

inductive HoldTimer where
  | stopped
  | running
  | expired
  deriving DecidableEq, Repr

/-- The tag of a purse copy (R102). -/
inductive CopyTag where
  | valid
  | empty
  | invalid
  deriving DecidableEq, Repr

/-- The state of a pass slot (R104). -/
inductive SlotState where
  | empty
  | damaged
  | confirmed
  | unconfirmed
  | undetermined
  deriving DecidableEq, Repr

inductive CrtKind where
  | topup
  | passCoins
  | passValue
  deriving DecidableEq, Repr

inductive Verdict where
  | landed
  | applied
  | conflict
  | inDoubt
  | deferred
  | abandoned
  deriving DecidableEq, Repr

inductive ConflictCause where
  | unknownBalance
  | overLimit
  | counter
  deriving DecidableEq, Repr

inductive WriteCause where
  | cardChanged
  | noCard
  | cardError
  | busFailure
  | readbackMismatch
  deriving DecidableEq, Repr

inductive WriteResult where
  | verified
  | failed
  | inDoubt
  deriving DecidableEq, Repr

/-- The 18 condition instances (R203). -/
inductive Cond where
  | tubeLow (n : TubeNo)
  | paperLow
  | paperOut
  | printerOffline
  | cashboxOut
  | coinJam (l : Lane)
  | headLost (l : Lane)
  | cardPath (l : Lane)
  | exactChange (l : Lane)
  deriving DecidableEq, Repr

inductive NoticeMode where
  | off
  | onDeclare
  | onBoth
  deriving DecidableEq, Repr

inductive LastResult where
  | none
  | ok
  | noCard
  | cardError
  | paperState
  | timeout
  | frameError
  deriving DecidableEq, Repr

inductive BusPhase where
  | sending
  | waitingReady
  | receiving
  deriving DecidableEq, Repr

inductive SnapshotMode where
  | manual
  | auto
  deriving DecidableEq, Repr

inductive StartCause where
  | powerOn
  | reset
  deriving DecidableEq, Repr

/-- The catalogue tables of R187. -/
inductive Table where
  | product
  | concession
  | band
  | tier
  | global
  | acceptance
  | tube
  | coinLimit
  | paper
  | journal
  | timers
  | noticeModes
  deriving DecidableEq, Repr

/-! ## Fare calculator (chapter 2) -/

/-- A set of the five pricing conditions: a condition set, or the condition mask (R35, R45). -/
structure PriceConds where
  zoneRange : Bool
  inexact : Bool
  overCeiling : Bool
  zeroPrice : Bool
  topupLimit : Bool
  deriving DecidableEq, Repr

/-- A non-empty product entry (R31). -/
structure Product where
  id : Nat
  kind : ProductKind
  base : Nat
  step : Nat
  included : Nat
  zmax : Nat
  bandApplies : Bool
  ceiling : Nat
  duration : Nat
  minAmount : Nat
  maxAmount : Nat
  deriving DecidableEq, Repr

/-- A concession class: discount and the kinds it applies to (R32). -/
structure Concession where
  discount : Nat
  single : Bool
  returnTicket : Bool
  pass : Bool
  topup : Bool
  deriving DecidableEq, Repr

/-- A used time band (R33). -/
structure Band where
  start : Nat
  stop : Nat
  factor : Nat
  deriving DecidableEq, Repr

/-- A used top-up tier (R34). -/
structure Tier where
  threshold : Nat
  rate : Nat
  deriving DecidableEq, Repr

/-- The tariff: the TARIFF section of retained memory (R30). -/
structure Tariff where
  products : List (Option Product)
  classes : List Concession
  bands : List (Option Band)
  tiers : List (Option Tier)
  unit : Nat
  mode : Rounding
  bmax : Nat
  mask : PriceConds
  deriving DecidableEq, Repr

/-! ## Lane controllers (chapter 1) -/

/-- The open sale: the sale context of R2, with what the pricing answer adds (R38) and what the snapshot adds
(R26: delivery verified, bound for CLOSED_IN_DOUBT). -/
structure Sale where
  seq : Nat
  product : Nat
  kind : ProductKind
  zonesAsked : Nat
  zonesPriced : Nat
  quantity : Nat
  concession : Nat
  delivery : Delivery
  payment : Payment
  topup : Nat
  receipt : Bool
  receiptLines : List (List Byte)
  price : Option Nat
  conds : PriceConds
  coinsReceived : Nat
  committed : Nat
  serial : Option Serial
  slot : Option Nat
  entryNo : Option Nat
  entryAttached : Bool
  waitKind : Option WaitKind
  refundOutcome : Option SaleOutcome
  changePaid : Nat
  refundPaid : Nat
  shortfall : Nat
  escrowReturned : Nat
  corrections : List (TubeNo × Nat)
  opened : Option Time
  journalRes : Nat
  ticketSlot : Bool
  recoveryRes : Bool
  verified : Bool
  bound : Bool
  validity : Option (Nat × Nat)
  purse : Nat
  bonus : Nat
  deriving DecidableEq, Repr

/-- One coin in an escrow tray (R66). -/
structure TrayEntry where
  denom : Nat
  target : Target
  deriving DecidableEq, Repr

/-- The retained copy of an open sale (R26). -/
structure Snapshot where
  sale : Sale
  state : LaneState
  tray : List TrayEntry
  deriving DecidableEq, Repr

/-- The lane context (R2). `timer` is the time the lane timer was started with while it runs. -/
structure LaneCtx where
  state : LaneState
  cardFault : Bool
  coinFault : Bool
  timer : Option Nat
  sale : Option Sale
  snapshot : Option Snapshot
  deriving DecidableEq, Repr

/-- A LANE_RESTORE waiting for its card check (R5): the lane, and whether its coin path failed its check. -/
structure Restore where
  lane : Lane
  stillCoin : Bool
  deriving DecidableEq, Repr

/-- The TIMERS table (R187). -/
structure Timers where
  awaitCard : Nat
  inactivity : Nat
  window : Nat
  holdDays : Nat
  deriving DecidableEq, Repr

/-! ## Coin intake unit (chapter 3) -/

/-- What the CIU is doing with a lane's tray (R67 to R69). -/
inductive TrayOp where
  | none
  | releasing
  | paused
  | returning
  deriving DecidableEq, Repr

/-- The CIU's state for one lane. `linkUp` is the head link state; while it stands the last sign of life lies
within the last 2 s (R52, R53; log entry 5). `counting` says that the time in the path state counts (R54). -/
structure CoinLane where
  linkUp : Bool
  headFault : Bool
  blocked : Bool
  counting : Bool
  jam : Bool
  tray : List TrayEntry
  trayOp : TrayOp
  released : Nat
  inhibits : List Nat
  audit : Bool
  deriving DecidableEq, Repr

structure Ciu where
  accept : List AcceptFields
  lanes : PerLane CoinLane
  boxPresent : Bool
  /-- (denomination, count) in ascending order of denomination (R74). -/
  boxCoins : List (Nat × Nat)
  boxValue : Nat
  deriving DecidableEq, Repr

/-! ## Change unit (chapter 4) -/

/-- A tube record (R78). -/
structure Tube where
  denom : Nat
  capacity : Nat
  l1 : Nat
  l2 : Nat
  count : Nat
  pendingIn : Nat
  low : Bool
  deriving DecidableEq, Repr

/-- A payout plan or a reservation: the tubes with coins, in the order of R84. -/
abbrev Plan := List (TubeNo × Nat)

/-- A payout order (R88). The one at the head of the queue is dispensing, the one behind it waits. What is left of
its plan is its lane's reservation (R89). -/
structure Order where
  kind : OrderKind
  lane : Lane
  seq : Nat
  amount : Nat
  paid : Nat
  /-- Coins confirmed for this order (R93's budget). -/
  coins : Nat
  shortfall : Nat
  /-- The shortfall found at dispatch, to which each re-plan adds its own (R93). -/
  atDispatch : Nat
  corrections : List (TubeNo × Nat)
  deriving DecidableEq, Repr

/-- A wait for the payout sensor: the tube pulsed, and whether it is the retry's wait (R91). -/
structure PayWait where
  tube : TubeNo
  second : Bool
  deriving DecidableEq, Repr

/-- A TUBE_DUMP under way (R98, R99). -/
structure Dump where
  tube : TubeNo
  asked : Nat
  before : Nat
  toBox : Nat
  toCup : Nat
  written : Nat
  stopped : Bool
  deriving DecidableEq, Repr

structure Chu where
  tubes : PerTube Tube
  coinLimit : Nat
  res : PerLane Plan
  orders : List Order
  wait : Option PayWait
  dump : Option Dump
  /-- The payout diverter stands at the cashbox (otherwise at the payout cup). -/
  diverterBox : Bool
  deriving DecidableEq, Repr

/-! ## Card recovery table (chapter 6) -/

/-- A pass slot's fields (R101). -/
structure SlotImage where
  product : Nat
  zones : Nat
  validFrom : Nat
  validUntil : Nat
  stamp : Nat
  deriving DecidableEq, Repr

/-- A recovery entry (R121), with its deferral-reported flag and the retry of R130. -/
structure CrtEntry where
  serial : Serial
  lane : Lane
  kind : CrtKind
  expected : Nat
  balance : Nat
  day : Nat
  credit : Nat
  slot : Option (Nat × SlotImage)
  saleSeq : Nat
  created : Option Time
  attached : Bool
  deferralReported : Bool
  expiryPending : Bool
  deriving DecidableEq, Repr

structure Crt where
  /-- The sixteen places, 0 to 15. -/
  entries : List (Option CrtEntry)
  reserved : PerLane Bool
  claims : PerLane (Option Serial)
  deriving DecidableEq, Repr

/-! ## Card unit (chapter 5) -/

inductive Purpose where
  | none
  | saleRead
  | delivery
  | enquiry
  | idleScan
  deriving DecidableEq, Repr

inductive CardPhase where
  | idle
  | polling
  | reading
  | read
  | writing
  | ending
  deriving DecidableEq, Repr

/-- A card as read: its seven blocks, and the slot chosen for a PASS (R104). -/
structure CardImage where
  blocks : List Block
  chosen : Option Nat
  deriving DecidableEq, Repr

/-- A write sequence (R114, R115). `todo` holds the block writes still to be answered, the one outstanding
first; with none left the read-back of the target copy is outstanding. -/
structure WriteSeq where
  slotImage : Option (Nat × Block)
  purse : Block
  target : Nat
  clear : List Nat
  todo : List (Nat × Block)
  issued : Nat
  deriving DecidableEq, Repr

/-- A resolution under way (R126 to R129). `aside` is set when the LC's reason for reading has gone away. -/
structure Resolution where
  entry : Nat
  detached : Bool
  hold : Bool
  aside : Bool
  counter : Option Nat
  deriving DecidableEq, Repr

/-- What the exchange outstanding at the DBC is for. -/
inductive CardUse where
  | poll
  | read
  | write
  | readBack
  | halt
  | restore
  deriving DecidableEq, Repr

/-- A device bus command with its operands (section 12.5). -/
inductive BusReq where
  | fieldPoll
  | blockRead (block : Nat)
  | blockWrite (block : Nat) (bytes : Block)
  | halt
  | printerStatus
  | line (text : List Byte)
  | feedCut
  deriving DecidableEq, Repr

/-- The card session of one lane (R105). `use` is what the outstanding exchange is for, `discard` that its result
is to be discarded (R109), `restoreWaiting` that a restore check waits behind it and `behind` the exchange put
behind that check (R154), `next` the purpose set while a resolution keeps the session (R129), `readDay` the day number
taken when the card's read completed (R104). -/
structure Session where
  purpose : Purpose
  phase : CardPhase
  serial : Option Serial
  priced : Option CardImage
  current : List Block
  write : Option WriteSeq
  use : Option CardUse
  discard : Bool
  restoreWaiting : Bool
  behind : Option (CardUse × BusReq)
  res : Option Resolution
  next : Purpose
  pendingAt : Option Lane
  readDay : Nat
  deriving DecidableEq, Repr

/-! ## Print unit (chapter 7) -/

/-- A print job (R133). -/
structure Job where
  id : Nat
  kind : JobKind
  lane : Option Lane
  seq : Nat
  lines : List (List Byte)
  printed : Nat
  age : Nat
  printing : Bool
  cancel : Bool
  deriving DecidableEq, Repr

/-- A pending note with the reservation it carries (R148). -/
structure PendingNote where
  lane : Lane
  seq : Nat
  shortfall : Nat
  job : Nat
  deriving DecidableEq, Repr

/-- What the PRU's outstanding exchange is for. -/
inductive PrintUse where
  | status
  | line
  | feedCut
  deriving DecidableEq, Repr

structure Pru where
  jobs : List Job
  reserved : PerLane Bool
  nextId : Nat
  nextAge : Nat
  printer : PrinterState
  paper : Option Paper
  cover : Option Cover
  hold : HoldTimer
  linesRemaining : Nat
  paperLow : Bool
  rollLines : Nat
  lowDeclare : Nat
  lowClear : Nat
  notes : List PendingNote
  use : Option PrintUse
  statusWanted : Bool
  deriving DecidableEq, Repr

/-! ## Device bus controller (chapter 8) -/

/-- The exchange in progress (R153). The deadline is in milliseconds once it has been set (R156). -/
structure Exchange where
  dev : Dev
  req : BusReq
  phase : BusPhase
  deadline : Option Nat
  seenLow : Bool
  deriving DecidableEq, Repr

structure Dbc where
  current : Option Exchange
  waiting : PerDev (Option BusReq)
  pointer : Option Dev
  counts : PerDev Nat
  last : PerDev LastResult
  /-- The READY line stands high. -/
  readyHigh : Bool
  /-- A device that is not selected holds READY low (R157). -/
  heldLow : Bool
  deriving DecidableEq, Repr

/-! ## Journal unit (chapter 9) -/

/-- The SALE record's body (R25). -/
structure SaleRecord where
  seq : Nat
  lane : Lane
  product : Nat
  kind : ProductKind
  zones : Nat
  quantity : Nat
  concession : Nat
  price : Nat
  conds : PriceConds
  coinsReceived : Nat
  escrowReturned : Nat
  committed : Nat
  cardDebited : Nat
  changePaid : Nat
  refundPaid : Nat
  shortfall : Nat
  delivery : Delivery
  serial : Option Serial
  slot : Option Nat
  entryNo : Option Nat
  corrections : List (TubeNo × Nat)
  opened : Option Time
  closed : Option Time
  outcome : SaleOutcome
  deriving DecidableEq, Repr

/-- The RECOVERY record's body (R128). The resolving lane is none for ABANDONED (R130, R131). -/
structure RecoveryRecord where
  entry : Nat
  serial : Serial
  origin : Lane
  resolving : Option Lane
  kind : CrtKind
  saleSeq : Nat
  expected : Nat
  counterRead : Option Nat
  balance : Nat
  credit : Nat
  verdict : Verdict
  cause : Option ConflictCause
  time : Option Time
  deriving DecidableEq, Repr

/-- The TUBE record's body (R97, R98); `dump` tells DUMP from SET. -/
structure TubeRecord where
  tube : TubeNo
  denom : Nat
  dump : Bool
  before : Nat
  after : Nat
  toBox : Nat
  toCup : Nat
  written : Nat
  time : Option Time
  deriving DecidableEq, Repr

/-- The SNAPSHOT record's body (R180). -/
structure SnapshotRecord where
  mode : SnapshotMode
  start : Option Time
  stop : Option Time
  salesCount : Nat
  salesValue : Nat
  credit : Nat
  debited : Nat
  shortfall : Nat
  accepted : Nat
  paidOut : Nat
  written : Nat
  toBox : Nat
  saturated : Bool
  deriving DecidableEq, Repr

/-- The sections found bad at power-on (R192). -/
structure BadSections where
  tariff : Bool
  acceptance : Bool
  parameters : Bool
  financial : Bool
  deriving DecidableEq, Repr

/-- The body of a journal record, by kind. -/
inductive RecordBody where
  | sale (r : SaleRecord)
  | note (lane : Lane) (seq shortfall : Nat) (printed : Bool) (job : Option Nat) (time : Option Time)
  | recovery (r : RecoveryRecord)
  | tube (r : TubeRecord)
  | cashbox (coins : List (Nat × Nat)) (value : Nat) (time : Option Time) (foundRemoved : Bool)
  | snapshot (r : SnapshotRecord)
  | power (cause : StartCause) (bad : BadSections) (closed : Nat)
  deriving DecidableEq, Repr

/-- A stored record: its header (R168) and body. -/
structure Record where
  seq : Nat
  lost : Nat
  time : Option Time
  body : RecordBody
  deriving DecidableEq, Repr

/-- A denomination row of the totals (R178). -/
structure TotalsRow where
  denom : Nat
  accepted : Nat
  toTubes : Nat
  paidOut : Nat
  written : Nat
  toBox : Nat
  deriving DecidableEq, Repr

/-- The totals (R178). `otherCounts` and `otherValues` are the OTHER row (their `denom` stays 0); `kinds` holds
count and value for SINGLE, RETURN, PASS, TOPUP, `outcomes` a count for each outcome and `returns` a count for
each return reason, in the order of their codes. -/
structure Totals where
  start : Option Time
  rows : List TotalsRow
  otherCounts : TotalsRow
  otherValues : TotalsRow
  kinds : List (Nat × Nat)
  outcomes : List Nat
  credit : Nat
  debited : Nat
  shortfall : Nat
  returns : PerLane (List Nat)
  saturated : Bool
  deriving DecidableEq, Repr

/-- The snapshot totals (R180). -/
structure TotalsSnapshot where
  totals : Totals
  stop : Option Time
  mode : SnapshotMode
  deriving DecidableEq, Repr

/-- The journal wait timer (R175). HELD and RUNNING carry the wait time it was last preset with, which a wait time
written since does not change. -/
inductive WaitTimer where
  | held (preset : Nat)
  | running (preset : Nat)
  | stopped
  deriving DecidableEq, Repr

structure Jnu where
  journal : List Record
  recSeq : Nat
  incomplete : Bool
  lost : Nat
  watermark : Nat
  /-- The watermark in force: one written in SERVICE takes effect at SERVICE_LEAVE (R174). -/
  inForce : Nat
  waitTime : Nat
  autoTime : Option Nat
  armed : Bool
  highOwed : Bool
  waitTimer : WaitTimer
  totals : Totals
  snapshot : Option TotalsSnapshot
  lastAutoDay : Option Nat
  /-- The day a waiting automatic snapshot was due (R182). -/
  retry : Option Nat
  deriving DecidableEq, Repr

/-! ## Link interface (chapter 11) -/

/-- A reply (R201): the request's code, lane and tag, the status and the rest of the body. -/
structure Reply where
  code : Nat
  lane : Nat
  tag : Nat
  status : Status
  body : List Byte
  deriving DecidableEq, Repr

/-- A copy tag and slot report for the CARD notice (R110): slot state, expired, and the fields of a well-formed
slot. -/
structure SlotReport where
  state : SlotState
  expired : Bool
  image : Option SlotImage
  deriving DecidableEq, Repr

/-- The contents of a CARD notice READ (R110). `balance` is none for UNKNOWN, and `new` marks a new card. -/
structure CardReport where
  serial : Serial
  balance : Option Nat
  new : Bool
  counter : Option Nat
  tagA : CopyTag
  tagB : CopyTag
  slots : List SlotReport
  pendingAt : Option Lane
  deriving DecidableEq, Repr

/-- What became of a coin (R64). -/
inductive CoinResult where
  | taken (t : Target)
  | committed (t : Target)
  | returned (r : ReturnReason)
  deriving DecidableEq, Repr

/-- The would-be action of an AUDIT notice (R73). -/
inductive WouldBe where
  | none
  | accept (t : Target)
  | slug
  deriving DecidableEq, Repr

/-- A notice (R202), with the fields its rule gives. -/
inductive Notice where
  | condition (c : Cond) (declared : Bool) (time : Option Time)
  | sale (lane : Lane) (seq : Nat) (state : LaneState) (price : Option Nat) (coins : Nat) (conds : PriceConds)
      (wait : Option WaitKind) (outcome : Option SaleOutcome) (reason : Option CardRefusal)
  | coin (lane : Lane) (seq : Option Nat) (result : CoinResult) (index : Option Nat) (denom : Nat)
  | audit (lane : Lane) (diam thick cond cls : Nat) (good : Bool) (index : Option Nat) (would : WouldBe)
      (reason : Option ReturnReason) (passed : List (Nat × PassedCause))
  | escrow (lane : Lane) (seq : Nat) (resumed : Bool) (value : Nat)
  | card (lane : Lane) (report : Option CardReport)
  | cardMismatch (lane : Lane) (expected found : Serial)
  | cardWrite (lane : Lane) (seq : Option Nat) (serial : Serial) (result : WriteResult)
      (cause : Option WriteCause) (issued : Nat) (entry : Option Nat)
  | recovery (lane : Option Lane) (entry : Nat) (verdict : Verdict)
  | payout (kind : OrderKind) (lane : Lane) (seq amount paid shortfall : Nat) (corrections : List (TubeNo × Nat))
  | tube (r : TubeRecord)
  | print (job : Option Nat) (kind : JobKind) (lane : Option Lane) (seq : Nat) (outcome : JobOutcome)
      (printed lineCount : Nat)
  | journalHigh (stored held watermark : Nat)
  | journalWaiting (stored : Nat) (oldest : Option Time)
  | quiesced
  deriving DecidableEq, Repr

/-- The receiver (R199): HUNTING (none), or ASSEMBLING with the bytes taken after the start byte. -/
abbrev Receiver := Option (List Byte)

/-- A frame being sent (R201). -/
inductive Outbound where
  | reply (r : Reply)
  | notice (n : Notice)
  deriving DecidableEq, Repr

structure Lki where
  receiver : Receiver
  /-- The two hold places, oldest first; the head is in service. -/
  hold : List Held
  dropCount : Nat
  tx : Option Outbound
  ready : Option Reply
  notices : List Notice
  noticesLost : Bool
  lostCount : Nat
  conds : List Cond
  raised : List Cond
  modes : List NoticeMode
  deriving DecidableEq, Repr

/-! ## Part and clock (chapter 10) -/

/-- The depot clock (R189). `counted` says that the second was reached by counting, not by CLOCK_SET (R182). -/
structure Clock where
  set : Bool
  day : Nat
  second : Nat
  counted : Bool
  deriving DecidableEq, Repr

/-- What start-up remembers for the POWER record (R193 step 5). -/
structure StartUp where
  cause : StartCause
  bad : BadSections
  closed : Nat
  deriving DecidableEq, Repr

/-- A pulse or level change the part drives in an event: the gate opened for one coin with its routing (none is the
tray), a tray coin routed out, the return flap, a tube ejector, a select asserted or released. -/
inductive Drive where
  | gate (l : Lane) (direct : Option Target)
  | route (l : Lane) (t : Target)
  | returnFlap (l : Lane)
  | eject (n : TubeNo)
  | select (d : Dev)
  | deselect (d : Dev)
  deriving DecidableEq, Repr

/-- Why a step stops with a fault. The spec describes no event that stops the part: a request is refused by a reply,
a device failure becomes a result or a condition. So there is no fault, and no command answers one (safe: no
behaviour is cut off). -/
inductive Fault where
  deriving DecidableEq, Repr

/-- Why a step refuses a command. -/
inductive Refusal where
  /-- The command has no meaning in the model yet; raised only by an arm of `exec` (safe: the machine stops). -/
  | notModelled (mnemonic : String)
  deriving DecidableEq, Repr

/-- The whole block, and the queue of commands that wait. -/
structure State where
  pending : List Instr
  part : PartState
  warnHeld : Bool
  warned : Bool
  start : StartUp
  resetPending : Bool
  clk : Clock
  tablesCleared : Bool
  financialLost : Bool
  saleSeq : Nat
  timers : Timers
  lanes : PerLane LaneCtx
  restore : Option Restore
  fcu : Tariff
  ciu : Ciu
  chu : Chu
  cdu : PerLane Session
  crt : Crt
  pru : Pru
  dbc : Dbc
  jnu : Jnu
  lki : Lki
  drives : List Drive
  freeCount : Nat
  deriving DecidableEq, Repr

/-! ## Starting values -/

def PriceConds.none : PriceConds := ⟨false, false, false, false, false⟩

/-- The factory tariff (R30). -/
def Tariff.default : Tariff where
  products := List.replicate 48 .none
  classes := List.replicate 8 ⟨0, false, false, false, false⟩
  bands := List.replicate 4 .none
  tiers := List.replicate 4 .none
  unit := 1
  mode := .nearestEven
  bmax := 20000
  mask := ⟨true, true, true, false, false⟩

/-- A DISABLED acceptance entry with all other fields 0 (R56). -/
def acceptDisabled : AcceptFields := ⟨3, 0, 0, 0, 0, 0, 0, 0, 0, 0, 0, 0, 0⟩

/-- The TIMERS table's defaults (R187). -/
def Timers.default : Timers := ⟨30, 60, 20, 7⟩

/-- A tube after a bad PARAMETERS section (R78), holding `count` coins. -/
def Tube.unused (count : Nat) : Tube := ⟨0, 150, 0, 1, count, 0, false⟩

/-- A lane context with no sale (R2). -/
def LaneCtx.start : LaneCtx := ⟨.idle, false, false, .none, .none, .none⟩

/-- The CIU's state for a lane at power-on and RESET (R77). -/
def CoinLane.start : CoinLane := ⟨true, false, false, true, false, [], .none, 0, [], false⟩

/-- A card session at power-on and RESET (R105). -/
def Session.start : Session :=
  ⟨.none, .idle, .none, .none, [], .none, .none, false, false, .none, .none, .none, .none, 0⟩

/-- The device bus at power-on (R153, R166). -/
def Dbc.start : Dbc :=
  ⟨.none, ⟨.none, .none, .none⟩, .none, ⟨0, 0, 0⟩, ⟨.none, .none, .none⟩, true, false⟩

def TotalsRow.zero (denom : Nat) : TotalsRow := ⟨denom, 0, 0, 0, 0, 0⟩

/-- Totals all zero with no rows (R178), for a period that starts at `start`. -/
def Totals.zero (start : Option Time) : Totals where
  start := start
  rows := []
  otherCounts := .zero 0
  otherValues := .zero 0
  kinds := List.replicate 4 (0, 0)
  outcomes := List.replicate 8 0
  credit := 0
  debited := 0
  shortfall := 0
  returns := ⟨List.replicate 9 0, List.replicate 9 0⟩
  saturated := false

/-- The factory notice modes (R204). -/
def modesDefault : List NoticeMode := List.replicate 16 .onBoth

/-- The machine right after power-on with every retained section found bad, the only power-on whose retained contents
the spec states (R192; log entry 1), the cashbox switch closed (log entry 2). Start-up has run its steps 1 to 4
(R193): the printer's first PRINTER_STATUS exchange is granted (R141), PAPER_LOW (0 lines is at or below 200)
and PRINTER_OFFLINE are declared (R142, R144), and the transmitter has begun with the first of their notices.
`test_reset_is_power_on` shows that POWER_ON with those inputs gives exactly this state. -/
def State.reset : State where
  pending := []
  part := .starting
  warnHeld := false
  warned := false
  start := ⟨.powerOn, ⟨true, true, true, true⟩, 0⟩
  resetPending := false
  clk := ⟨false, 0, 0, false⟩
  tablesCleared := true
  financialLost := true
  saleSeq := 0
  timers := .default
  lanes := ⟨.start, .start⟩
  restore := .none
  fcu := .default
  ciu := ⟨List.replicate 32 acceptDisabled, ⟨.start, .start⟩, true, [], 0⟩
  chu := ⟨⟨.unused 0, .unused 0, .unused 0, .unused 0, .unused 0, .unused 0⟩, 15, ⟨[], []⟩, [], .none, .none, false⟩
  cdu := ⟨.start, .start⟩
  crt := ⟨List.replicate 16 .none, ⟨false, false⟩, ⟨.none, .none⟩⟩
  pru := ⟨[], ⟨false, false⟩, 1, 0, .offline, .none, .none, .running, 0, true, 4000, 200, 400, [], some .status, false⟩
  dbc := { Dbc.start with
    current := some ⟨.printer, .printerStatus, .sending, .none, false⟩
    pointer := some .printer }
  jnu := ⟨[], 1, false, 0, 48, 48, 300, .none, true, false, .stopped, .zero .none, .none, .none, .none⟩
  lki := {
    receiver := .none
    hold := []
    dropCount := 0
    tx := some (.notice (.condition .paperLow true .none))
    ready := .none
    notices := [.condition .printerOffline true .none]
    noticesLost := false
    lostCount := 0
    conds := [.paperLow, .printerOffline]
    raised := [.paperLow, .printerOffline]
    modes := modesDefault }
  drives := [.returnFlap .a, .returnFlap .b, .select .printer]
  freeCount := 0

end Sys2Proof.Machine
end

