-- ==== Sys2Proof/Machine/Ops.lean ====
section
/-! DEFINITION. The named operations every block uses: access by lane, tube and device, the clock's time, the
notice queue (R202), the conditions (R203) and the free values. -/

namespace Sys2Proof

def Lane.other : Lane → Lane
  | .a => .b
  | .b => .a

/-- The lane code in frames: A 1, B 2 (section 12.1). -/
def Lane.code : Lane → Nat
  | .a => 1
  | .b => 2

/-- The lane a lane byte names, if it is 1 or 2 (R200). -/
def Lane.ofCode : Nat → Option Lane
  | 1 => some .a
  | 2 => some .b
  | _ => none

namespace Machine

/-! ## Access by lane, tube and device -/

def PerLane.get {α : Type} (p : PerLane α) : Lane → α
  | .a => p.a
  | .b => p.b

def PerLane.set {α : Type} (p : PerLane α) (l : Lane) (x : α) : PerLane α :=
  match l with
  | .a => { p with a := x }
  | .b => { p with b := x }

def PerTube.get {α : Type} (p : PerTube α) : TubeNo → α
  | .t1 => p.t1
  | .t2 => p.t2
  | .t3 => p.t3
  | .t4 => p.t4
  | .t5 => p.t5
  | .t6 => p.t6

def PerTube.set {α : Type} (p : PerTube α) (n : TubeNo) (x : α) : PerTube α :=
  match n with
  | .t1 => { p with t1 := x }
  | .t2 => { p with t2 := x }
  | .t3 => { p with t3 := x }
  | .t4 => { p with t4 := x }
  | .t5 => { p with t5 := x }
  | .t6 => { p with t6 := x }

def PerDev.get {α : Type} (p : PerDev α) : Dev → α
  | .frontA => p.frontA
  | .frontB => p.frontB
  | .printer => p.printer

def PerDev.set {α : Type} (p : PerDev α) (d : Dev) (x : α) : PerDev α :=
  match d with
  | .frontA => { p with frontA := x }
  | .frontB => { p with frontB := x }
  | .printer => { p with printer := x }

def TubeNo.all : List TubeNo := [.t1, .t2, .t3, .t4, .t5, .t6]

def TubeNo.code : TubeNo → Nat
  | .t1 => 1
  | .t2 => 2
  | .t3 => 3
  | .t4 => 4
  | .t5 => 5
  | .t6 => 6

def TubeNo.ofCode : Nat → Option TubeNo
  | 1 => some .t1
  | 2 => some .t2
  | 3 => some .t3
  | 4 => some .t4
  | 5 => some .t5
  | 6 => some .t6
  | _ => none

/-- The card front-end of a lane (R152). -/
def Dev.ofLane : Lane → Dev
  | .a => .frontA
  | .b => .frontB

def State.lane (s : State) (l : Lane) : LaneCtx := s.lanes.get l
def State.session (s : State) (l : Lane) : Session := s.cdu.get l
def State.coin (s : State) (l : Lane) : CoinLane := s.ciu.lanes.get l
def State.tube (s : State) (n : TubeNo) : Tube := s.chu.tubes.get n

def State.setLane (s : State) (l : Lane) (x : LaneCtx) : State := { s with lanes := s.lanes.set l x }
def State.setSession (s : State) (l : Lane) (x : Session) : State := { s with cdu := s.cdu.set l x }
def State.setCoin (s : State) (l : Lane) (x : CoinLane) : State :=
  { s with ciu := { s.ciu with lanes := s.ciu.lanes.set l x } }
def State.setTube (s : State) (n : TubeNo) (x : Tube) : State :=
  { s with chu := { s.chu with tubes := s.chu.tubes.set n x } }

/-- Change the open sale of a lane, if there is one. -/
def State.modSale (s : State) (l : Lane) (f : Sale → Sale) : State :=
  s.setLane l { s.lane l with sale := (s.lane l).sale.map f }

/-- Drive an output (the pulses of the event in hand). -/
def State.drive (s : State) (d : Drive) : State := { s with drives := s.drives ++ [d] }

/-- The time as the blocks read it: absent while the clock is UNSET (R189). -/
def State.now (s : State) : Option Time := if s.clk.set then some ⟨s.clk.day, s.clk.second⟩ else none

/-- A counter that stays at 255 (link drop count R199, lost counts R173 and R202). -/
def bump255 (n : Nat) : Nat := if n < 255 then n + 1 else 255

/-! ## Notices (R202) -/

/-- Queue a notice at the tail; with 32 queued it is lost, NOTICES_LOST is set and counted. -/
def State.notify (s : State) (n : Notice) : State :=
  if s.lki.notices.length < 32 then
    { s with lki := { s.lki with notices := s.lki.notices ++ [n] } }
  else
    { s with lki := { s.lki with noticesLost := true, lostCount := bump255 s.lki.lostCount } }

/-! ## Conditions (R203, R204) -/

/-- The 18 instances in the order of section 12.1. -/
def Cond.all : List Cond :=
  TubeNo.all.map .tubeLow ++
    [.paperLow, .paperOut, .printerOffline, .cashboxOut, .coinJam .a, .coinJam .b, .headLost .a, .headLost .b,
     .cardPath .a, .cardPath .b, .exactChange .a, .exactChange .b]

/-- The index of NOTICE_MODES that covers an instance (R204). -/
def Cond.modeIndex : Cond → Nat
  | .tubeLow n => n.code - 1
  | .paperLow => 6
  | .paperOut => 6
  | .printerOffline => 6
  | .cashboxOut => 7
  | .coinJam l => 7 + l.code
  | .headLost l => 9 + l.code
  | .cardPath l => 11 + l.code
  | .exactChange l => 13 + l.code

/-- Add an instance to a set of instances, kept in the order of `Cond.all`. -/
def Cond.insert (c : Cond) (cs : List Cond) : List Cond := Cond.all.filter fun x => x = c ∨ x ∈ cs

/-- Remove an instance from a set of instances. -/
def Cond.remove (c : Cond) (cs : List Cond) : List Cond := cs.filter fun x => x ≠ c

/-- The notice mode in force for an instance. -/
def State.modeOf (s : State) (c : Cond) : NoticeMode := s.lki.modes.getD c.modeIndex .onBoth

/-- The LKI takes a declaration (R203). -/
def State.declare (s : State) (c : Cond) : State :=
  if c ∈ s.lki.conds then s
  else
    let t := { s with lki := { s.lki with conds := c.insert s.lki.conds, raised := c.insert s.lki.raised } }
    if s.modeOf c = .off then t else t.notify (.condition c true s.now)

/-- The LKI takes a clearing (R203). -/
def State.clear (s : State) (c : Cond) : State :=
  if c ∈ s.lki.conds then
    let t := { s with lki := { s.lki with conds := c.remove s.lki.conds } }
    if s.modeOf c = .onBoth then t.notify (.condition c false s.now) else t
  else s

/-! ## Sums, counts and folds over both lanes -/

/-- Apply `f` for lane A and then for lane B. -/
def State.forLanes (s : State) (f : State → Lane → State) : State := f (f s .a) .b

/-- How many of the two lanes satisfy `p`. -/
def countLanes (p : Lane → Bool) : Nat := (if p .a then 1 else 0) + (if p .b then 1 else 0)

/-! ## The beginning and the outcome of a command -/

/-- A command begins with no output driven. -/
def State.begin (s : State) : State := { s with drives := [] }

end Machine

end Sys2Proof
end

