-- ==== Sys2Proof/Machine/Journal.lean ====
section
/-! DEFINITION. The journal unit: records, admission and reservations (R168 to R175), the running totals (R178, R179)
and snapshots (R180). -/

namespace Sys2Proof.Machine

/-! ## Reservations and admission -/

/-- Reservations held by the open sale of a lane (R170). -/
def State.saleRes (s : State) (l : Lane) : Nat :=
  match (s.lane l).sale with
  | some x => x.journalRes
  | none => 0

/-- The journal hold of a resolution at a lane (R128, R170). -/
def State.holdRes (s : State) (l : Lane) : Bool :=
  match (s.session l).res with
  | some r => r.hold
  | none => false

/-- V of R171: the journal reservations held by open sales, pending notes and resolutions (R170). -/
def State.held (s : State) : Nat :=
  s.saleRes .a + s.saleRes .b + s.pru.notes.length + countLanes s.holdRes

/-- S of R171: the records stored. -/
def State.stored (s : State) : Nat := s.jnu.journal.length

/-- The test for records of other kinds and for holds (R172). -/
def State.admits (s : State) : Bool := s.stored + s.held < 64

/-! ## Running totals (R178, R179) -/

def totalsTop : Nat := 4294967295

/-- A field after an addition: at most the top. -/
def satAdd (x n : Nat) : Nat := min (x + n) totalsTop

/-- Whether an addition passed the top. -/
def satOver (x n : Nat) : Bool := totalsTop < x + n

/-- The five columns of a denomination row. -/
inductive Column where
  | accepted
  | toTubes
  | paidOut
  | written
  | toBox
  deriving DecidableEq, Repr

def TotalsRow.col (r : TotalsRow) : Column → Nat
  | .accepted => r.accepted
  | .toTubes => r.toTubes
  | .paidOut => r.paidOut
  | .written => r.written
  | .toBox => r.toBox

def TotalsRow.setCol (r : TotalsRow) (c : Column) (x : Nat) : TotalsRow :=
  match c with
  | .accepted => { r with accepted := x }
  | .toTubes => { r with toTubes := x }
  | .paidOut => { r with paidOut := x }
  | .written => { r with written := x }
  | .toBox => { r with toBox := x }

/-- Add to a column of a row. -/
def TotalsRow.add (r : TotalsRow) (c : Column) (n : Nat) : TotalsRow := r.setCol c (satAdd (r.col c) n)

/-- Insert a zero row for `d` in its place by denomination, or find the one there. -/
def rowInsert (d : Nat) : List TotalsRow → List TotalsRow
  | [] => [.zero d]
  | r :: rs => if d < r.denom then .zero d :: r :: rs else if d = r.denom then r :: rs else r :: rowInsert d rs

/-- Add `n` to column `c` of denomination `d`; past 40 rows the OTHER row takes the count and the value (R178). -/
def Totals.addCoins (t : Totals) (c : Column) (d n : Nat) : Totals :=
  if t.rows.any (fun r => r.denom = d) ∨ t.rows.length < 40 then
    let rows := rowInsert d t.rows
    { t with
      rows := rows.map fun r => if r.denom = d then r.add c n else r
      saturated := t.saturated || rows.any fun r => decide (r.denom = d) && satOver (r.col c) n }
  else
    { t with
      otherCounts := t.otherCounts.add c n
      otherValues := t.otherValues.add c (n * d)
      saturated := t.saturated || satOver (t.otherCounts.col c) n || satOver (t.otherValues.col c) (n * d) }

def Totals.addCredit (t : Totals) (n : Nat) : Totals :=
  { t with credit := satAdd t.credit n, saturated := t.saturated || satOver t.credit n }

def Totals.addShortfall (t : Totals) (n : Nat) : Totals :=
  { t with shortfall := satAdd t.shortfall n, saturated := t.saturated || satOver t.shortfall n }

/-- The code of a return reason (section 12.1). -/
def ReturnReason.code : ReturnReason → Nat
  | .noSale => 1
  | .notPaying => 2
  | .saleClosed => 3
  | .gateClosed => 4
  | .badRead => 5
  | .unknown => 6
  | .slug => 7
  | .noChange => 8
  | .escrow => 9

/-- Add `n` returns of a lane and reason. -/
def Totals.addReturns (t : Totals) (l : Lane) (r : ReturnReason) (n : Nat) : Totals :=
  let xs := t.returns.get l
  let x := xs.getD (r.code - 1) 0
  { t with returns := t.returns.set l (xs.set (r.code - 1) (satAdd x n)), saturated := t.saturated || satOver x n }

def SaleOutcome.code : SaleOutcome → Nat
  | .completed => 1
  | .cancelled => 2
  | .timedOut => 3
  | .deliveryFailed => 4
  | .closedInDoubt => 5
  | .refusedAtCard => 6
  | .laneFault => 7
  | .interrupted => 8

def ProductKind.code : ProductKind → Nat
  | .single => 1
  | .returnTicket => 2
  | .pass => 3
  | .topup => 4

/-- Whether an outcome keeps the price (R24). -/
def SaleOutcome.kept : SaleOutcome → Bool
  | .completed => true
  | .closedInDoubt => true
  | _ => false

/-- What the storing of a SALE record adds (R179). -/
def Totals.addSale (t : Totals) (r : SaleRecord) : Totals :=
  let o := t.outcomes.getD (r.outcome.code - 1) 0
  let t1 : Totals :=
    { t with
      outcomes := t.outcomes.set (r.outcome.code - 1) (satAdd o 1)
      saturated := t.saturated || satOver o 1 }
  if r.outcome.kept then
    let k := t1.kinds.getD (r.kind.code - 1) (0, 0)
    { t1 with
      kinds := t1.kinds.set (r.kind.code - 1) (satAdd k.1 1, satAdd k.2 r.price)
      debited := satAdd t1.debited r.cardDebited
      saturated := t1.saturated || satOver k.1 1 || satOver k.2 r.price || satOver t1.debited r.cardDebited }
  else t1

/-- Change the running totals. -/
def State.tally (s : State) (f : Totals → Totals) : State :=
  { s with jnu := { s.jnu with totals := f s.jnu.totals } }

/-! ## Storing a record -/

/-- The next value of a sequence counter that goes from 4,294,967,295 to 1 (R7, R169). -/
def seqNext (n : Nat) : Nat := if n < 4294967295 then n + 1 else 1

/-- The watermark test after a store that found `before` records (R174). -/
def State.highCheck (s : State) (before : Nat) : State :=
  if s.jnu.armed ∧ before < s.jnu.inForce ∧ s.jnu.inForce ≤ s.stored then
    { s with jnu := { s.jnu with armed := false } }.notify (.journalHigh s.stored s.held s.jnu.inForce)
  else s

/-- A store that finds the journal empty starts the wait timer from its preset (R175); STOPPED it stays. -/
def WaitTimer.start : WaitTimer → WaitTimer
  | .held n => .running n
  | .running n => .running n
  | .stopped => .stopped

/-- The wait timer runs. -/
def WaitTimer.runs : WaitTimer → Bool
  | .running _ => true
  | _ => false

/-- Store a record: header, lost count, sequence, totals, watermark and wait timer (R168, R169, R173 to R175).
The caller has seen to its admission. -/
def State.store (s : State) (b : RecordBody) : State :=
  let rec_ : Record := ⟨s.jnu.recSeq, s.jnu.lost, s.now, b⟩
  let j : Jnu :=
    { s.jnu with
      journal := s.jnu.journal ++ [rec_]
      recSeq := seqNext s.jnu.recSeq
      incomplete := false
      lost := 0
      waitTimer := if s.jnu.journal = [] then s.jnu.waitTimer.start else s.jnu.waitTimer
      totals := match b with
        | .sale r => s.jnu.totals.addSale r
        | _ => s.jnu.totals }
  { s with jnu := j }.highCheck s.stored

/-- A record that could not be stored and is marked so in R172 (R173). -/
def State.recordLost (s : State) : State :=
  { s with jnu := { s.jnu with incomplete := true, lost := bump255 s.jnu.lost } }

/-- Store a CASHBOX, TUBE or POWER record if the test of R172 admits it; otherwise JOURNAL_INCOMPLETE. -/
def State.storeOther (s : State) (b : RecordBody) : State := if s.admits then s.store b else s.recordLost

/-! ## Snapshots (R180) -/

/-- The value of a column over a totals set: count times denomination over the rows, plus the OTHER row's value. -/
def Totals.value (t : Totals) (c : Column) : Nat :=
  (t.rows.map fun r => r.denom * r.col c).sum + t.otherValues.col c

/-- The SNAPSHOT record's body for copied totals (R180 step 2); a sum past the top stands at the top with the flag. -/
def Totals.record (t : Totals) (mode : SnapshotMode) (stop : Option Time) : SnapshotRecord :=
  let count := (t.kinds.map Prod.fst).sum
  let value := (t.kinds.map Prod.snd).sum
  let top := fun n => min n totalsTop
  { mode := mode
    start := t.start
    stop := stop
    salesCount := top count
    salesValue := top value
    credit := t.credit
    debited := t.debited
    shortfall := t.shortfall
    accepted := top (t.value .accepted)
    paidOut := top (t.value .paidOut)
    written := top (t.value .written)
    toBox := top (t.value .toBox)
    saturated := t.saturated ||
      [count, value, t.value .accepted, t.value .paidOut, t.value .written, t.value .toBox].any (totalsTop < ·) }

/-- Take a snapshot whose record has been admitted (R180). -/
def State.takeSnapshot (s : State) (mode : SnapshotMode) : State :=
  let t := s.jnu.totals
  let s1 := { s with jnu := { s.jnu with snapshot := some ⟨t, s.now, mode⟩ } }
  let s2 := s1.store (.snapshot (t.record mode s.now))
  { s2 with jnu := { s2.jnu with totals := .zero s.now } }

/-- Try an automatic snapshot that was due on day `due` (R182): made if admitted, otherwise a retry waits. -/
def State.tryAuto (s : State) (due : Nat) : State :=
  if s.admits then
    let t := s.takeSnapshot .auto
    { t with jnu := { t.jnu with lastAutoDay := some due, retry := none } }
  else { s with jnu := { s.jnu with retry := some due } }

/-! ## Releasing records (R174, R175, R177) -/

/-- Remove the `n` oldest records; the watermark re-arms below W, and the wait timer is preset and held when none is
left. -/
def State.releaseRecords (s : State) (n : Nat) : State :=
  let left := s.jnu.journal.drop n
  { s with jnu :=
    { s.jnu with
      journal := left
      armed := s.jnu.armed || decide (left.length < s.jnu.inForce)
      waitTimer := if left = [] ∧ s.part ≠ .starting then .held s.jnu.waitTime else s.jnu.waitTimer } }

end Sys2Proof.Machine
end

