-- ==== Sys2Proof/Machine/Fare.lean ====
section
/-! DEFINITION. The fare calculator (chapter 2): the admission question, ticket, pass and top-up pricing, the
balance comparison, the writes of the tariff tables and their validation. All arithmetic is exact on Nat. -/

namespace Sys2Proof.Machine

/-- The product that holds an id, if a non-empty entry does (R37). -/
def Tariff.find (t : Tariff) (id : Nat) : Option Product :=
  t.products.findSome? fun p => match p with
    | some x => if x.id = id then some x else none
    | none => none

/-- The range verdict of the admission question for a known product (R37): true for OK. -/
def Tariff.inRange (t : Tariff) (p : Product) (zones quantity concession topup : Nat) : Bool :=
  (1 ≤ zones && zones ≤ 15) && (1 ≤ quantity && quantity ≤ 9) &&
  (quantity = 1 || !(p.kind = .pass || p.kind = .topup)) && concession ≤ 7 &&
  (!(p.kind = .topup) || (topup % t.unit = 0 && p.minAmount ≤ topup && topup ≤ p.maxAmount))

/-! ## Ticket and pass pricing (R39 to R46) -/

/-- Whether a class applies to a kind (R32). -/
def Concession.applies (c : Concession) : ProductKind → Bool
  | .single => c.single
  | .returnTicket => c.returnTicket
  | .pass => c.pass
  | .topup => c.topup

/-- The discount D of a class for a kind (R32). -/
def Tariff.discount (t : Tariff) (concession : Nat) (k : ProductKind) : Nat :=
  match t.classes[concession]? with
  | some c => if c.applies k then c.discount else 0
  | none => 0

/-- The band factor F at a second of day (R33). -/
def Tariff.factor (t : Tariff) (p : Product) (second : Nat) : Nat :=
  if p.bandApplies then
    (t.bands.findSome? fun b => match b with
      | some x => if x.start ≤ second ∧ second < x.stop then some x.factor else none
      | none => none).getD 10000
  else 10000

/-- The extra zones E (R39). -/
def Product.extra (p : Product) (zones : Nat) : Nat := zones - p.included

/-- The gross G (R40). -/
def Product.gross (p : Product) (zones quantity : Nat) : Nat := (p.base + p.step * p.extra zones) * quantity

/-- The exact numerator N, in units of 10^-8 mu (R40). -/
def exactNumerator (gross factor discount : Nat) : Nat := gross * factor * (10000 - discount)

/-- The rounded quotient of `n / m` under a mode (R41). -/
def roundQuotient (mode : Rounding) (n m : Nat) : Nat :=
  let f := n / m
  let r := n % m
  match mode with
  | .down => f
  | .up => if 0 < r then f + 1 else f
  | .nearestUp => if m ≤ 2 * r then f + 1 else f
  | .nearestEven => if m < 2 * r then f + 1 else if 2 * r = m then (if f % 2 = 0 then f else f + 1) else f

/-- The rounded price P1 (R41): the rounded quotient by m = 10^8 U, times U. -/
def roundPrice (mode : Rounding) (n unit : Nat) : Nat := roundQuotient mode n (100000000 * unit) * unit

/-- Whether INEXACT is raised (R42): the remainder of R41 is not 0. -/
def inexactPrice (n unit : Nat) : Bool := n % (100000000 * unit) ≠ 0

/-- Why a pricing is refused (R38). UNKNOWN_PRODUCT and RANGE are the refusals of stage 0. -/
inductive PriceRefusal where
  | unknownProduct
  | range
  | zoneRange
  | inexact
  | overCeiling
  | amountRange
  | zeroPrice
  | topupLimit
  | limit
  deriving DecidableEq, Repr

/-- A priced answer (R38): price, condition set, zones priced, validity days of a PASS, bonus of a TOPUP, purse value
of a card delivery where one is formed. -/
structure Quote where
  price : Nat
  conds : PriceConds
  zones : Nat
  validity : Option (Nat × Nat)
  bonus : Nat
  purse : Option Nat
  deriving DecidableEq, Repr

/-- The answer of a pricing question (R38). -/
inductive Pricing where
  | priced (q : Quote)
  | refused (code : PriceRefusal) (conds : PriceConds)
  deriving DecidableEq, Repr

/-- The validity days of a PASS priced on `day` (R46). -/
def Product.validity (p : Product) (day : Nat) : Option (Nat × Nat) :=
  if p.kind = .pass then some (day, min (day + p.duration - 1) 65535) else none

/-- Stages 1 to 8 for a ticket or pass whose operands passed stage 0 (R39 to R46), without the purse value. -/
def Tariff.priceTicket (t : Tariff) (p : Product) (zones quantity concession second day : Nat) : Pricing :=
  -- stage 1
  let beyond := p.zmax < zones
  let c1 : PriceConds := { PriceConds.none with zoneRange := decide beyond }
  if beyond ∧ !t.mask.zoneRange then .refused .zoneRange c1
  else
    let z := if beyond then p.zmax else zones
    -- stages 2 to 5
    let n := exactNumerator (p.gross z quantity) (t.factor p second) (t.discount concession p.kind)
    -- stage 6
    let p1 := roundPrice t.mode n t.unit
    let c6 := { c1 with inexact := inexactPrice n t.unit }
    if c6.inexact ∧ !t.mask.inexact then .refused .inexact c6
    else
      -- stage 7
      let above := 0 < p.ceiling ∧ p.ceiling < p1
      let c7 := { c6 with overCeiling := decide above }
      if above ∧ !t.mask.overCeiling then .refused .overCeiling c7
      else
        let p2 := if above then p.ceiling else p1
        if 999999 < p2 then .refused .amountRange c7
        else
          -- stage 8
          let c8 := { c7 with zeroPrice := decide (p2 = 0) }
          if p2 = 0 ∧ !t.mask.zeroPrice then .refused .zeroPrice c8
          else .priced ⟨p2, c8, z, p.validity day, 0, none⟩

/-! ## Top-up pricing (R47 to R49) -/

/-- The rate of the tier in force for an amount (R34): greatest threshold not above it, the lower index at a tie. -/
def Tariff.rate (t : Tariff) (amount : Nat) : Nat :=
  ((t.tiers.foldl (fun best x => match x with
    | some y =>
      if y.threshold ≤ amount then
        match best with
        | some (b : Tier) => if b.threshold < y.threshold then some y else best
        | none => some y
      else best
    | none => best) none).map Tier.rate).getD 0

/-- The bonus for an amount (R47). -/
def Tariff.bonus (t : Tariff) (amount : Nat) : Nat := amount * t.rate amount / (10000 * t.unit) * t.unit

/-- The purse value a top-up of `a` leaves on a balance `k`. -/
def Tariff.purseAfter (t : Tariff) (k a : Nat) : Nat := k + a + t.bonus a

/-- The search of R48: the first candidate from `a` downward in steps of U that fits, none once a candidate is below
the min amount. `fuel` bounds the number of candidates. -/
def Tariff.searchTopup (t : Tariff) (k minAmount : Nat) : Nat → Nat → Option Nat
  | 0, _ => none
  | fuel + 1, a =>
    if a < minAmount then none
    else if t.purseAfter k a ≤ t.bmax then some a
    else if a < t.unit then none
    else t.searchTopup k minAmount fuel (a - t.unit)

/-- Top-up pricing for operands that passed the admission checks and a known balance `k` (R48, R49). -/
def Tariff.priceTopup (t : Tariff) (p : Product) (zones amount k : Nat) : Pricing :=
  if t.purseAfter k amount ≤ t.bmax then
    .priced ⟨amount, PriceConds.none, zones, none, t.bonus amount, some (t.purseAfter k amount)⟩
  else
    let c := { PriceConds.none with topupLimit := true }
    if !t.mask.topupLimit then .refused .topupLimit c
    else match t.searchTopup k p.minAmount (amount / t.unit + 1) amount with
      | some a => .priced ⟨a, c, zones, none, t.bonus a, some (t.purseAfter k a)⟩
      | none => .refused .limit c

/-! ## The pricing question (R38, R50) -/

/-- Add the purse value of a PASS to card to its priced answer (R50). -/
def Tariff.addPurse (t : Tariff) (pay : Payment) (k : Nat) (q : Quote) : Pricing :=
  match pay with
  | .coins => if t.bmax < k then .refused .limit q.conds else .priced { q with purse := some k }
  | .cardValue =>
    if k < q.price then .priced q
    else if t.bmax < k - q.price then .refused .limit q.conds
    else .priced { q with purse := some (k - q.price) }

/-- The pricing question (R38). `balance` is the known balance of the card read for a card delivery. A clock that has become
UNSET gives day 0 and second 0, by which the band is chosen then (log entry 31). -/
def Tariff.price (t : Tariff) (clk : Clock) (product zones quantity concession topup : Nat) (del : Delivery)
    (pay : Payment) (balance : Option Nat) : Pricing :=
  match t.find product with
  | none => .refused .unknownProduct PriceConds.none
  | some p =>
    if !t.inRange p zones quantity concession topup then .refused .range PriceConds.none
    else if p.kind = .topup then t.priceTopup p zones topup (balance.getD 0)
    else match t.priceTicket p zones quantity concession clk.second clk.day with
      | .refused code c => .refused code c
      | .priced q => if del = .card then t.addPurse pay (balance.getD 0) q else .priced q

/-- The results of the balance comparison (R51). -/
inductive Comparison where
  | greater
  | equal
  | less
  | unordered
  deriving DecidableEq, Repr

/-- The comparison of a card's balance state with a price (R51). -/
def compareBalance (balance : Option Nat) (price : Nat) : Comparison :=
  match balance with
  | none => .unordered
  | some k => if price < k then .greater else if k = price then .equal else .less

/-! ## Table writes (R31 to R35) -/

def ProductKind.ofCode : Nat → Option ProductKind
  | 1 => some .single
  | 2 => some .returnTicket
  | 3 => some .pass
  | 4 => some .topup
  | _ => none

def Rounding.ofCode : Nat → Option Rounding
  | 1 => some .nearestEven
  | 2 => some .nearestUp
  | 3 => some .down
  | 4 => some .up
  | _ => none

/-- The product a PRODUCT write with a non-zero id stores, if every field lies in its range (R31). -/
def productOf (e : ProductFields) : Option Product :=
  match ProductKind.ofCode e.kind with
  | none => none
  | some k =>
    let dur := if k = .pass then 1 ≤ e.duration ∧ e.duration ≤ 400 else e.duration = 0
    let amt :=
      if k = .topup then 1 ≤ e.minAmount ∧ e.minAmount ≤ e.maxAmount ∧ e.maxAmount ≤ 999999
      else e.minAmount = 0 ∧ e.maxAmount = 0
    if 1 ≤ e.id ∧ e.id ≤ 255 ∧ e.base ≤ 65535 ∧ e.step ≤ 9999 ∧ 1 ≤ e.included ∧ e.included ≤ 15 ∧
        1 ≤ e.zmax ∧ e.zmax ≤ 15 ∧ e.bandApplies ≤ 1 ∧ e.ceiling ≤ 999999 ∧ dur ∧ amt then
      some ⟨e.id, k, e.base, e.step, e.included, e.zmax, e.bandApplies = 1, e.ceiling, e.duration, e.minAmount,
        e.maxAmount⟩
    else none

/-- Whether an entry other than `index` holds a product id (R31). -/
def Tariff.idElsewhere (t : Tariff) (index id : Nat) : Bool :=
  (t.products.set index none).any fun p => match p with
    | some x => x.id = id
    | none => false

/-- A PRODUCT write within the index range (R31): the new tariff, or none for RANGE. Id 0 empties the entry, and no other
field is tested then (log entry 33). -/
def Tariff.writeProduct (t : Tariff) (index : Nat) (e : ProductFields) : Option Tariff :=
  if e.id = 0 then some { t with products := t.products.set index none }
  else match productOf e with
    | none => none
    | some p => if t.idElsewhere index p.id then none else some { t with products := t.products.set index (some p) }

/-- A CONCESSION write (R32). `kinds` is a set of kinds as a byte (section 12.1). -/
def Tariff.writeConcession (t : Tariff) (index discount kinds : Nat) : Option Tariff :=
  if discount ≤ 10000 ∧ kinds < 16 ∧ (index ≠ 0 ∨ discount = 0) then
    let c : Concession :=
      ⟨discount, kinds.testBit 0, kinds.testBit 1, kinds.testBit 2, kinds.testBit 3⟩
    some { t with classes := t.classes.set index c }
  else none

/-- A BAND write (R33): `used` 0 makes the entry unused, and no other field is tested then (log entry 34). -/
def Tariff.writeBand (t : Tariff) (index used start stop factor : Nat) : Option Tariff :=
  if used = 0 then some { t with bands := t.bands.set index none }
  else if used = 1 ∧ start ≤ 86399 ∧ 1 ≤ stop ∧ stop ≤ 86400 ∧ start < stop ∧ factor ≤ 20000 then
    some { t with bands := t.bands.set index (some ⟨start, stop, factor⟩) }
  else none

/-- A TIER write (R34): `used` 0 makes the entry unused, and no other field is tested then (log entry 35). -/
def Tariff.writeTier (t : Tariff) (index used threshold rate : Nat) : Option Tariff :=
  if used = 0 then some { t with tiers := t.tiers.set index none }
  else if used = 1 ∧ 1 ≤ threshold ∧ threshold ≤ 999999 ∧ rate ≤ 5000 then
    some { t with tiers := t.tiers.set index (some ⟨threshold, rate⟩) }
  else none

def roundingUnits : List Nat := [1, 2, 5, 10, 20, 25, 50, 100]

/-- A condition set from its byte (section 12.1); in a condition mask bit 1 stands for masked (log entry 36). -/
def PriceConds.ofByte (n : Nat) : PriceConds :=
  ⟨n.testBit 0, n.testBit 1, n.testBit 2, n.testBit 3, n.testBit 4⟩

/-- A GLOBAL write (R35). -/
def Tariff.writeGlobal (t : Tariff) (unit mode bmax mask : Nat) : Option Tariff :=
  match Rounding.ofCode mode with
  | none => none
  | some m =>
    if unit ∈ roundingUnits ∧ 1 ≤ bmax ∧ bmax ≤ 999999 ∧ mask < 32 then
      some { t with unit := unit, mode := m, bmax := bmax, mask := PriceConds.ofByte mask }
    else none

/-! ## Validation at SERVICE_LEAVE (R36) -/

/-- A product's relations of R36. -/
def Tariff.productValid (t : Tariff) (p : Product) : Bool :=
  if p.kind = .topup then p.minAmount % t.unit = 0 && p.maxAmount % t.unit = 0
  else p.included ≤ p.zmax && p.ceiling % t.unit = 0

/-- Whether two bands share a second. -/
def Band.overlaps (x y : Band) : Bool := x.start < y.stop && y.start < x.stop

/-- The first band whose interval meets that of a used band at a higher index (R36). -/
def firstOverlap : Nat → List (Option Band) → Option Nat
  | _, [] => none
  | i, none :: rest => firstOverlap (i + 1) rest
  | i, some b :: rest =>
    if rest.any (fun x => match x with | some y => b.overlaps y | none => false) then some i
    else firstOverlap (i + 1) rest

/-- The first failing table and index of the FCU's part, in the order of R36. Orders 2, 3 and 4 are tables
of relations, each over all products in index order; within one entry they stand in that order, and the
products are taken in index order, so the first failing product is reported either way. -/
def Tariff.validate (t : Tariff) : Option (Table × Nat) :=
  match t.products.findIdx? (fun p => match p with | some x => !t.productValid x | none => false) with
  | some i => some (.product, i)
  | none => (firstOverlap 0 t.bands).map fun i => (.band, i)

end Sys2Proof.Machine
end

