-- ==== Sys2Proof/Machine/Formats.lean ====
section
/-! DEFINITION. The byte layouts of chapter 12: numbers and codes, the host frame and its CRC-16, card blocks and
their check byte, device bus frames, journal records, and the bodies of notices. -/

namespace Sys2Proof.Machine

/-! ## Numbers (section 12.1): unsigned, high byte first -/

/-- `n` in `w` bytes, high byte first. -/
def be : Nat → Nat → List Byte
  | 0, _ => []
  | w + 1, n => BitVec.ofNat 8 (n / 256 ^ w) :: be w n

/-- The number that bytes stand for, high byte first. -/
def ofBe (bs : List Byte) : Nat := bs.foldl (fun acc b => acc * 256 + b.toNat) 0

def flagByte (b : Bool) : List Byte := [if b then 1 else 0]

/-- A field that may be absent and for which 0 is a value: a presence byte and the field, zero when absent. -/
def optBe (w : Nat) (x : Option Nat) : List Byte := flagByte x.isSome ++ be w (x.getD 0)

/-- A time: day, then second of day. -/
def timeBytes (t : Time) : List Byte := be 2 t.day ++ be 3 t.second

/-- A time that may be absent. -/
def optTime (t : Option Time) : List Byte := flagByte t.isSome ++ timeBytes (t.getD ⟨0, 0⟩)

/-- A list: a count byte, then its items in order. -/
def listBytes {α : Type} (f : α → List Byte) (xs : List α) : List Byte := be 1 xs.length ++ xs.flatMap f

/-- A text line: a length byte, then the characters. -/
def textLine (l : List Byte) : List Byte := be 1 l.length ++ l

/-- A serial that may be none: zero bytes then. -/
def serialBytes (s : Option Serial) : List Byte := s.getD (List.replicate 7 0)

/-- A serial that may be none, where no presence bit stands elsewhere: a presence byte before it, since seven zero bytes may be
a serial (section 12.1). -/
def optSerial (s : Option Serial) : List Byte := flagByte s.isSome ++ serialBytes s

/-! ## Codes of enumerations (section 12.1) -/

def PartState.code : PartState → Nat
  | .starting => 1
  | .inUse => 2
  | .service => 3
  | .shuttingDown => 4
  | .quiesced => 5

def LaneState.code : LaneState → Nat
  | .idle => 1
  | .enquiry => 2
  | .recovering => 3
  | .awaitCard => 4
  | .paying => 5
  | .delivering => 6
  | .cardWait => 7
  | .payout => 8
  | .refunding => 9

def WaitKind.code : WaitKind → Nat
  | .preWrite => 1
  | .inDoubt => 2

def ServiceLevel.code : ServiceLevel → Nat
  | .full => 1
  | .cashOnly => 2
  | .cardOnly => 3
  | .out => 4

def Delivery.code : Delivery → Nat
  | .paper => 1
  | .card => 2

def Payment.code : Payment → Nat
  | .coins => 1
  | .cardValue => 2

def CardRefusal.code : CardRefusal → Nat
  | .cardFull => 1
  | .cardExhausted => 2
  | .cardUnreadable => 3
  | .insufficientValue => 4
  | .zoneRange => 5
  | .inexact => 6
  | .overCeiling => 7
  | .zeroPrice => 8
  | .topupLimit => 9
  | .limit => 10
  | .amountRange => 11

def Rounding.code : Rounding → Nat
  | .nearestEven => 1
  | .nearestUp => 2
  | .down => 3
  | .up => 4

/-- The status code that stands first in a reply's body (section 11.2). -/
def Status.code : Status → Nat
  | .ok => 0x00
  | .unknownRequest => 0x01
  | .badLength => 0x02
  | .range => 0x03
  | .wrongState => 0x04
  | .serviceState => 0x05
  | .shuttingDown => 0x06
  | .quiesced => 0x07
  | .notInService => 0x08
  | .busy => 0x09
  | .unknownProduct => 0x10
  | .badCombination => 0x11
  | .laneDegraded => 0x12
  | .clockUnset => 0x13
  | .journalFull => 0x14
  | .printerUnavailable => 0x15
  | .recoveryFull => 0x16
  | .amountRange => 0x17
  | .zoneRange => 0x18
  | .inexact => 0x19
  | .overCeiling => 0x1A
  | .zeroPrice => 0x1B
  | .tooLate => 0x20
  | .stillFaulty => 0x21
  | .tableInvalid => 0x22
  | .tubeNotEmpty => 0x23
  | .cashboxAbsent => 0x24
  | .noEntry => 0x25
  | .notCancellable => 0x26
  | .noJob => 0x27
  | .notQueued => 0x28
  | .sequenceMismatch => 0x29

def Target.code : Target → Nat
  | .tube n => n.code
  | .cashbox => 7

def PassedCause.code : PassedCause → Nat
  | .inhibited => 1
  | .tubeFull => 2
  | .cashboxOut => 3

def OrderKind.code : OrderKind → Nat
  | .change => 1
  | .refund => 2

def JobKind.code : JobKind → Nat
  | .ticket => 1
  | .note => 2
  | .receipt => 3
  | .service => 4

def JobOutcome.code : JobOutcome → Nat
  | .printed => 1
  | .printedDespiteCancel => 2
  | .failed => 3
  | .cancelled => 4
  | .notQueued => 5

def PrinterState.code : PrinterState → Nat
  | .ready => 1
  | .printing => 2
  | .paperOut => 3
  | .offline => 4

/-- Paper state in host frames, 0 for UNKNOWN. -/
def paperCode : Option Paper → Nat
  | none => 0
  | some .present => 1
  | some .nearEnd => 2
  | some .out => 3

/-- Cover state in host frames, 0 for UNKNOWN. -/
def coverCode : Option Cover → Nat
  | none => 0
  | some .closed => 1
  | some .open => 2

def HoldTimer.code : HoldTimer → Nat
  | .stopped => 1
  | .running => 2
  | .expired => 3

def CopyTag.code : CopyTag → Nat
  | .valid => 1
  | .empty => 2
  | .invalid => 3

def SlotState.code : SlotState → Nat
  | .empty => 1
  | .damaged => 2
  | .confirmed => 3
  | .unconfirmed => 4
  | .undetermined => 5

def CrtKind.code : CrtKind → Nat
  | .topup => 1
  | .passCoins => 2
  | .passValue => 3

def Verdict.code : Verdict → Nat
  | .landed => 1
  | .applied => 2
  | .conflict => 3
  | .inDoubt => 4
  | .deferred => 5
  | .abandoned => 6

def ConflictCause.code : ConflictCause → Nat
  | .unknownBalance => 1
  | .overLimit => 2
  | .counter => 3

def WriteCause.code : WriteCause → Nat
  | .cardChanged => 1
  | .noCard => 2
  | .cardError => 3
  | .busFailure => 4
  | .readbackMismatch => 5

def WriteResult.code : WriteResult → Nat
  | .verified => 1
  | .failed => 2
  | .inDoubt => 3

/-- The condition's code, and the tube number or lane it carries (0 for the others). -/
def Cond.codes : Cond → Nat × Nat
  | .tubeLow n => (1, n.code)
  | .paperLow => (2, 0)
  | .paperOut => (3, 0)
  | .printerOffline => (4, 0)
  | .cashboxOut => (5, 0)
  | .coinJam l => (6, l.code)
  | .headLost l => (7, l.code)
  | .cardPath l => (8, l.code)
  | .exactChange l => (9, l.code)

/-- The lane a condition belongs to, 0 for none. -/
def Cond.laneCode : Cond → Nat
  | .coinJam l => l.code
  | .headLost l => l.code
  | .cardPath l => l.code
  | .exactChange l => l.code
  | _ => 0

def NoticeMode.code : NoticeMode → Nat
  | .off => 1
  | .onDeclare => 2
  | .onBoth => 3

def NoticeMode.ofCode : Nat → Option NoticeMode
  | 1 => some .off
  | 2 => some .onDeclare
  | 3 => some .onBoth
  | _ => none

def LastResult.code : LastResult → Nat
  | .none => 0
  | .ok => 1
  | .noCard => 2
  | .cardError => 3
  | .paperState => 4
  | .timeout => 5
  | .frameError => 6

def BusPhase.code : BusPhase → Nat
  | .sending => 1
  | .waitingReady => 2
  | .receiving => 3

def SnapshotMode.code : SnapshotMode → Nat
  | .manual => 1
  | .auto => 2

def StartCause.code : StartCause → Nat
  | .powerOn => 1
  | .reset => 2

def Table.code : Table → Nat
  | .product => 1
  | .concession => 2
  | .band => 3
  | .tier => 4
  | .global => 5
  | .acceptance => 6
  | .tube => 7
  | .coinLimit => 8
  | .paper => 9
  | .journal => 10
  | .timers => 11
  | .noticeModes => 12

/-- A pricing condition set as one byte (section 12.1). -/
def PriceConds.byte (c : PriceConds) : Nat :=
  (if c.zoneRange then 1 else 0) + (if c.inexact then 2 else 0) + (if c.overCeiling then 4 else 0) +
  (if c.zeroPrice then 8 else 0) + (if c.topupLimit then 16 else 0)

/-- A set of condition instances as a number: bit k - 1 for the k-th instance of `Cond.all`. -/
def condSetNat (cs : List Cond) : Nat :=
  (Cond.all.zipIdx.map fun p => if p.1 ∈ cs then 2 ^ p.2 else 0).sum

/-! ## The host frame (section 12.2, R208) -/

/-- One step of the CRC register: shift out the top bit, and apply polynomial 0x1021 if it was 1. -/
def crcShift (c : BitVec 16) : BitVec 16 :=
  if c.getLsbD 15 then (c <<< 1) ^^^ 0x1021 else c <<< 1

/-- A byte enters the register most significant bit first. -/
def crcByte (c : BitVec 16) (b : Byte) : BitVec 16 :=
  let x := c ^^^ (b.setWidth 16 <<< 8)
  crcShift (crcShift (crcShift (crcShift (crcShift (crcShift (crcShift (crcShift x)))))))

/-- The CRC-16 of a host frame over its bytes from the body length on (R208). -/
def crc16 (bs : List Byte) : BitVec 16 := bs.foldl crcByte 0xFFFF

/-- A host frame on the line: start byte, length, code, lane, tag, body, CRC high byte first. -/
def hostFrame (code lane tag : Nat) (body : List Byte) : List Byte :=
  let core := be 1 body.length ++ be 1 code ++ be 1 lane ++ be 1 tag ++ body
  0xA5 :: (core ++ be 2 (crc16 core).toNat)

/-! ## Card blocks (section 12.4, R210) -/

/-- The sum of bytes modulo 256. -/
def byteSum (bs : List Byte) : Byte := bs.foldl (· + ·) 0

/-- An all-zero block is empty (R101). -/
def blockEmpty (b : Block) : Bool := b.all (· = 0)

/-- The check byte agrees: all sixteen bytes sum to 0xA5 (R210). -/
def blockChecks (b : Block) : Bool := byteSum b = 0xA5

/-- Append the check byte to the first fifteen bytes of a block. -/
def withCheck (bs : List Byte) : Block := bs ++ [0xA5 - byteSum bs]

/-- The empty clearing image: all zero bytes (R101, R114, R117), with no check byte of R210 (log entry 42). -/
def emptyBlock : Block := List.replicate 16 0

/-- The bytes from `i`, `w` of them, as a number. -/
def field (b : Block) (i w : Nat) : Nat := ofBe ((b.drop i).take w)

/-- A purse copy's fields (R101). -/
structure PurseCopy where
  balance : Nat
  counter : Nat
  lane : Nat
  day : Nat
  deriving DecidableEq, Repr

def purseFields (b : Block) : PurseCopy := ⟨field b 0 3, field b 3 2, field b 5 1, field b 6 2⟩

/-- The tag of a purse copy (R102). -/
def copyTag (b : Block) : CopyTag :=
  let p := purseFields b
  if blockEmpty b then .empty
  else if blockChecks b ∧ p.balance ≤ 999999 ∧ (p.lane = 1 ∨ p.lane = 2) then .valid
  else .invalid

/-- A purse image as written (R114). -/
def purseBlock (balance counter : Nat) (lane : Lane) (day : Nat) : Block :=
  withCheck (be 3 balance ++ be 2 counter ++ be 1 lane.code ++ be 2 day ++ List.replicate 7 0)

def slotFields (b : Block) : SlotImage := ⟨field b 0 1, field b 1 1, field b 2 2, field b 4 2, field b 6 2⟩

/-- A well-formed pass slot's fields, none for an empty or damaged one (R101). -/
def slotParse (b : Block) : Option SlotImage :=
  let x := slotFields b
  if blockChecks b ∧ x.product ≠ 0 ∧ 1 ≤ x.zones ∧ x.zones ≤ 15 then some x else none

/-- A pass slot image as written (R114). -/
def slotBlock (x : SlotImage) : Block :=
  withCheck (be 1 x.product ++ be 1 x.zones ++ be 2 x.validFrom ++ be 2 x.validUntil ++ be 2 x.stamp ++
    List.replicate 7 0)

/-- The serial of a well-formed serial block, none for an empty or damaged one (R101). -/
def blockSerial (b : Block) : Option Serial :=
  if blockEmpty b then none else if blockChecks b then some (b.take 7) else none

/-! ## Device bus frames (section 12.5) -/

def BusReq.code : BusReq → Nat
  | .fieldPoll => 0x01
  | .blockRead _ => 0x02
  | .blockWrite _ _ => 0x03
  | .halt => 0x04
  | .printerStatus => 0x11
  | .line _ => 0x12
  | .feedCut => 0x13

def BusReq.operands : BusReq → List Byte
  | .blockRead n => be 1 n
  | .blockWrite n bs => be 1 n ++ bs
  | .line t => textLine t
  | _ => []

/-- Append the frame check byte, which makes all bytes sum to 0x5A. -/
def withBusCheck (bs : List Byte) : List Byte := bs ++ [0x5A - byteSum bs]

/-- The request frame that is clocked out. -/
def BusReq.frame (r : BusReq) : List Byte := withBusCheck (be 1 r.code ++ r.operands)

/-- The response of a device, once its frame has passed the tests of R158. -/
inductive Response where
  | noCard
  | cardError
  | serial (s : Serial)
  | block (b : Block)
  | done
  | paper (p : Paper) (c : Cover)
  deriving DecidableEq, Repr

/-- The length bytes a command allows for any of its statuses (section 12.5). -/
def BusReq.lengths : BusReq → List Nat
  | .fieldPoll => [9, 2]
  | .blockRead _ => [18, 2]
  | .blockWrite _ _ => [2]
  | .halt => [2]
  | .printerStatus => [4]
  | .line _ => [4]
  | .feedCut => [4]

def paperOfByte (b : Byte) : Option Paper :=
  if b = 0 then some .present else if b = 1 then some .nearEnd else if b = 2 then some .out else none

def coverOfByte (b : Byte) : Option Cover :=
  if b = 0 then some .closed else if b = 1 then some .open else none

/-- The status and data of a response whose length and check agree: the response, or none where the status is not one
the command can answer, or the length does not agree with it, or a printer value is out of its codes (R158). -/
def BusReq.answer (r : BusReq) (status : Byte) (data : List Byte) : Option Response :=
  match r with
  | .fieldPoll =>
    if status = 0 ∧ data.length = 7 then some (.serial data)
    else if status = 1 ∧ data = [] then some .noCard
    else if status = 2 ∧ data = [] then some .cardError
    else none
  | .blockRead _ =>
    if status = 0 ∧ data.length = 16 then some (.block data)
    else if status = 1 ∧ data = [] then some .noCard
    else if status = 2 ∧ data = [] then some .cardError
    else none
  | .blockWrite _ _ =>
    if data = [] then
      if status = 0 then some .done else if status = 1 then some .noCard else if status = 2 then some .cardError
      else none
    else none
  | .halt => if status = 0 ∧ data = [] then some .done else none
  | .printerStatus => printerAnswer status data
  | .line _ => printerAnswer status data
  | .feedCut => printerAnswer status data
where
  /-- A printer's response data: paper state and cover state. -/
  printerAnswer (status : Byte) (data : List Byte) : Option Response :=
    match data with
    | [p, c] =>
      match paperOfByte p, coverOfByte c with
      | some pp, some cc => if status = 0 then some (.paper pp cc) else none
      | _, _ => none
    | _ => none

/-- Judge a response frame (R158): the response of a success, none for a frame error. Bytes after the number the length
byte gives are not clocked in. -/
def BusReq.judge (r : BusReq) (bytes : List Byte) : Option Response :=
  match bytes with
  | [] => none
  | len :: rest =>
    if len.toNat ∈ r.lengths ∧ len.toNat ≤ rest.length then
      let frame := rest.take len.toNat
      if byteSum (len :: frame) = 0x5A then
        match frame with
        | status :: more => r.answer status more.dropLast
        | [] => none
      else none
    else none

/-! ## Journal records (section 12.3) -/

/-- Tube corrections: tube and coins written off, two bytes each. -/
def correctionBytes (cs : List (TubeNo × Nat)) : List Byte := cs.flatMap fun c => be 1 c.1.code ++ be 1 c.2

/-- The presence byte of a SALE body (offset 44). -/
def SaleRecord.presence (r : SaleRecord) : Nat :=
  (if r.serial.isSome then 1 else 0) + (if r.slot.isSome then 2 else 0) + (if r.entryNo.isSome then 4 else 0) +
  (if r.closed.isSome then 8 else 0)

/-- The SALE body, 78 bytes. -/
def SaleRecord.bytes (r : SaleRecord) : List Byte :=
  be 4 r.seq ++ be 1 r.lane.code ++ be 1 r.product ++ be 1 r.kind.code ++ be 1 r.zones ++ be 1 r.quantity ++
  be 1 r.concession ++ be 4 r.price ++ be 1 r.conds.byte ++ be 4 r.coinsReceived ++ be 4 r.escrowReturned ++
  be 4 r.committed ++ be 4 r.cardDebited ++ be 4 r.changePaid ++ be 4 r.refundPaid ++ be 4 r.shortfall ++
  be 1 r.delivery.code ++ be 1 r.presence ++ serialBytes r.serial ++ be 1 (r.slot.getD 0) ++
  be 1 (r.entryNo.getD 0) ++ be 1 r.corrections.length ++
  ((correctionBytes r.corrections ++ List.replicate 12 0).take 12) ++
  timeBytes (r.opened.getD ⟨0, 0⟩) ++ timeBytes (r.closed.getD ⟨0, 0⟩) ++ be 1 r.outcome.code

def RecoveryRecord.bytes (r : RecoveryRecord) : List Byte :=
  be 1 r.entry ++ r.serial ++ be 1 r.origin.code ++ be 1 ((r.resolving.map Lane.code).getD 0) ++ be 1 r.kind.code ++
  be 4 r.saleSeq ++ be 2 r.expected ++ optBe 2 r.counterRead ++ be 3 r.balance ++ be 4 r.credit ++
  be 1 r.verdict.code ++ be 1 ((r.cause.map ConflictCause.code).getD 0) ++ optTime r.time

/-- A TUBE record's body: SET holds the counts, DUMP also the three coin counts (R97, R98). -/
def TubeRecord.bytes (r : TubeRecord) : List Byte :=
  be 1 r.tube.code ++ be 4 r.denom ++ be 1 (if r.dump then 2 else 1) ++ be 1 r.before ++ be 1 r.after ++
  (if r.dump then be 1 r.toBox ++ be 1 r.toCup ++ be 1 r.written else []) ++ optTime r.time

def SnapshotRecord.bytes (r : SnapshotRecord) : List Byte :=
  be 1 r.mode.code ++ optTime r.start ++ optTime r.stop ++ be 4 r.salesCount ++ be 4 r.salesValue ++
  be 4 r.credit ++ be 4 r.debited ++ be 4 r.shortfall ++ be 4 r.accepted ++ be 4 r.paidOut ++ be 4 r.written ++
  be 4 r.toBox ++ flagByte r.saturated

/-- The sections found bad as a set, in the order of R191. -/
def BadSections.byte (b : BadSections) : Nat :=
  (if b.tariff then 1 else 0) + (if b.acceptance then 2 else 0) + (if b.parameters then 4 else 0) +
  (if b.financial then 8 else 0)

def RecordBody.code : RecordBody → Nat
  | .sale _ => 1
  | .note .. => 2
  | .recovery _ => 3
  | .tube _ => 4
  | .cashbox .. => 5
  | .snapshot _ => 6
  | .power .. => 7

/-- A record's body. -/
def RecordBody.bytes : RecordBody → List Byte
  | .sale r => r.bytes
  | .note l seq short printed job t =>
    be 1 l.code ++ be 4 seq ++ be 4 short ++ be 1 (if printed then 1 else 2) ++ be 1 (job.getD 0) ++ optTime t
  | .recovery r => r.bytes
  | .tube r => r.bytes
  | .cashbox coins value t found =>
    listBytes (fun c => be 4 c.1 ++ be 4 c.2) coins ++ be 4 value ++ optTime t ++ be 1 (if found then 2 else 1)
  | .snapshot r => r.bytes
  | .power cause bad closed => be 1 cause.code ++ be 1 bad.byte ++ be 1 closed

/-- A whole record: the 13-byte header and the body. -/
def Record.bytes (r : Record) : List Byte :=
  be 4 r.seq ++ be 1 r.body.code ++ be 1 r.body.bytes.length ++ be 1 r.lost ++ flagByte r.time.isSome ++
  timeBytes (r.time.getD ⟨0, 0⟩) ++ r.body.bytes

/-- The records a JOURNAL_READ reply carries: whole, in order, up to `n`, while the next one fits `room` bytes
(section 12.3). -/
def fitRecords : Nat → Nat → List Record → List Record
  | 0, _, _ => []
  | _, _, [] => []
  | n + 1, room, r :: rs =>
    if r.bytes.length ≤ room then r :: fitRecords n (room - r.bytes.length) rs else []

/-! ## Notices (section 11.4) -/

/-- A notice's code. -/
def Notice.code : Notice → Nat
  | .condition .. => 0x60
  | .sale .. => 0x61
  | .coin .. => 0x62
  | .audit .. => 0x63
  | .escrow .. => 0x64
  | .card .. => 0x65
  | .cardMismatch .. => 0x66
  | .cardWrite .. => 0x67
  | .recovery .. => 0x68
  | .payout .. => 0x69
  | .tube .. => 0x6A
  | .print .. => 0x6B
  | .journalHigh .. => 0x6C
  | .journalWaiting .. => 0x6D
  | .quiesced => 0x6E

/-- The lane a notice concerns, 0 for none (R202). A RECOVERY notice concerns the lane that read the card, and none where no
card was read (log entry 65). -/
def Notice.laneCode : Notice → Nat
  | .condition c _ _ => c.laneCode
  | .sale l _ _ _ _ _ _ _ _ => l.code
  | .coin l _ _ _ _ => l.code
  | .audit l _ _ _ _ _ _ _ _ _ => l.code
  | .escrow l _ _ _ => l.code
  | .card l _ => l.code
  | .cardMismatch l _ _ => l.code
  | .cardWrite l _ _ _ _ _ _ => l.code
  | .recovery l _ _ => (l.map Lane.code).getD 0
  | .payout _ l _ _ _ _ _ => l.code
  | .tube _ => 0
  | .print _ _ l _ _ _ _ => (l.map Lane.code).getD 0
  | .journalHigh .. => 0
  | .journalWaiting .. => 0
  | .quiesced => 0

/-- A pass slot's fields in a CARD notice (R110): a product id and zones are never 0 and need no presence byte, the days and
the stamp counter do (section 12.1). -/
def slotImageBytes (x : Option SlotImage) : List Byte :=
  be 1 ((x.map SlotImage.product).getD 0) ++ be 1 ((x.map SlotImage.zones).getD 0) ++
  optBe 2 (x.map SlotImage.validFrom) ++ optBe 2 (x.map SlotImage.validUntil) ++ optBe 2 (x.map SlotImage.stamp)

/-- The balance as KNOWN 1, NEW 2 or UNKNOWN 3, and the balance, zero unless KNOWN (section 12.1). -/
def balanceBytes (balance : Option Nat) (new : Bool) : List Byte :=
  match balance with
  | none => be 1 3 ++ be 3 0
  | some k => if new then be 1 2 ++ be 3 0 else be 1 1 ++ be 3 k

def CardReport.bytes (r : CardReport) : List Byte :=
  r.serial ++ balanceBytes r.balance r.new ++ optBe 2 r.counter ++ be 1 r.tagA.code ++ be 1 r.tagB.code ++
  r.slots.flatMap (fun s => be 1 s.state.code ++ flagByte s.expired ++ slotImageBytes s.image) ++
  be 1 ((r.pendingAt.map Lane.code).getD 0)

def ReturnReason.optCode (r : Option ReturnReason) : Nat := (r.map ReturnReason.code).getD 0

/-- The acceptance action and its tube byte (section 12.1), zero for NONE. -/
def WouldBe.bytes : WouldBe → List Byte
  | .none => be 1 0 ++ be 1 0
  | .accept (.tube n) => be 1 1 ++ be 1 n.code
  | .accept .cashbox => be 1 2 ++ be 1 0
  | .slug => be 1 3 ++ be 1 0

/-- A COIN notice's result, reason and target codes. -/
def CoinResult.codes : CoinResult → Nat × Nat × Nat
  | .taken t => (1, 0, t.code)
  | .committed t => (2, 0, t.code)
  | .returned r => (3, r.code, 0)

/-- The body of a notice: the fields its rule lists in the order listed (R202, chapter 12), the lane among them where the
rule lists it. A RECOVERY notice has its verdict and then its entry number, and a CARD_MISMATCH the sale's serial and then the
one that answered (log entry 25). -/
def Notice.body : Notice → List Byte
  | .condition c d t => be 1 c.codes.1 ++ be 1 c.codes.2 ++ be 1 (if d then 1 else 2) ++ optTime t
  | .sale l seq st price coins conds wait out why =>
    be 1 l.code ++ be 4 seq ++ be 1 st.code ++ optBe 4 price ++ be 4 coins ++ be 1 conds.byte ++
    be 1 ((wait.map WaitKind.code).getD 0) ++ be 1 ((out.map SaleOutcome.code).getD 0) ++
    be 1 ((why.map CardRefusal.code).getD 0)
  | .coin l seq res index denom =>
    be 1 l.code ++ be 4 (seq.getD 0) ++ be 1 res.codes.1 ++ be 1 res.codes.2.1 ++ optBe 1 index ++ be 4 denom ++
    be 1 res.codes.2.2
  | .audit l d t c k good index would reason passed =>
    be 1 l.code ++ be 2 d ++ be 2 t ++ be 2 c ++ be 1 k ++ be 1 (if good then 1 else 2) ++ optBe 1 index ++ would.bytes ++
    be 1 (ReturnReason.optCode reason) ++ listBytes (fun p => be 1 p.1 ++ be 1 p.2.code) passed
  | .escrow l seq resumed value => be 1 l.code ++ be 4 seq ++ be 1 (if resumed then 2 else 1) ++ be 4 value
  | .card l none => be 1 l.code ++ be 1 2
  | .card l (some r) => be 1 l.code ++ be 1 1 ++ r.bytes
  | .cardMismatch l want got => be 1 l.code ++ want ++ got
  | .cardWrite l seq serial res cause issued entry =>
    be 1 l.code ++ be 4 (seq.getD 0) ++ serial ++ be 1 res.code ++ be 1 ((cause.map WriteCause.code).getD 0) ++ be 1 issued ++
    optBe 1 entry
  | .recovery _ entry v => be 1 v.code ++ be 1 entry
  | .payout k l seq amount paid short cs =>
    be 1 k.code ++ be 1 l.code ++ be 4 seq ++ be 4 amount ++ be 4 paid ++ be 4 short ++ be 1 cs.length ++ correctionBytes cs
  | .tube r => r.bytes
  | .print job k l seq out printed count =>
    be 1 (job.getD 0) ++ be 1 k.code ++ be 1 ((l.map Lane.code).getD 0) ++ be 4 seq ++ be 1 out.code ++ be 1 printed ++ be 1 count
  | .journalHigh s v w => be 1 s ++ be 1 v ++ be 1 w
  | .journalWaiting s t => be 1 s ++ optTime t
  | .quiesced => []

/-- The frame the transmitter sends (R201, R202): a reply carries the request's code plus 0x80, a notice tag 0. -/
def Outbound.frame : Outbound → List Byte
  | .reply r => hostFrame (r.code + 0x80) r.lane r.tag (be 1 r.status.code ++ r.body)
  | .notice n => hostFrame n.code n.laneCode 0 n.body

end Sys2Proof.Machine
end

