-- ==== Sys2Proof/Machine/Operands.lean ====
section
/-! DEFINITION. The operands of a host request: which request the code and the body of a complete frame carry, and the
body length each request allows (section 12.1, R200, R209). -/

namespace Sys2Proof.Machine

/-- The fields of widths `ws` that stand from the start of `bs`, if `bs` ends exactly after them. -/
def fieldsOf : List Nat → List Byte → Option (List Nat)
  | [], bs => if bs = [] then some [] else none
  | w :: ws, bs =>
    if w ≤ bs.length then (fieldsOf ws (bs.drop w)).map (ofBe (bs.take w) :: ·) else none

/-- Walk `n` text lines: each line's characters, if the walk ends exactly at the last byte (R209). -/
def walkLines : Nat → List Byte → Option (List (List Byte))
  | 0, bs => if bs = [] then some [] else none
  | _ + 1, [] => none
  | n + 1, len :: bs =>
    if len.toNat ≤ bs.length then (walkLines n (bs.drop len.toNat)).map (bs.take len.toNat :: ·) else none

/-- A list of text lines: a count byte and the lines. -/
def textLines : List Byte → Option (List (List Byte))
  | [] => none
  | n :: bs => walkLines n.toNat bs

/-- The widths of a TABLE_WRITE entry's fields, by table code (R187, section 12.1); a band and a tier open with a byte that
says whether they are used (log entries 34 and 35). -/
def entryWidths : Nat → Option (List Nat)
  | 1 => some [1, 1, 4, 4, 1, 1, 1, 4, 2, 4, 4]
  | 2 => some [2, 1]
  | 3 => some [1, 3, 3, 2]
  | 4 => some [1, 4, 2]
  | 5 => some [4, 1, 4, 1]
  | 6 => some [1, 2, 2, 2, 2, 2, 2, 1, 1, 1, 4, 1, 1]
  | 7 => some [4, 1, 1, 1]
  | 8 => some [1]
  | 9 => some [2, 2, 2]
  | 10 => some [1, 2, 1, 3]
  | 11 => some [1, 2, 1, 1]
  | 12 => some [1]
  | _ => none

/-- The entry that the fields of a table's widths stand for. -/
def entryOf : Nat → List Nat → Option TableEntry
  | 1, [i, k, b, s, n, z, t, c, d, x, y] => some (.product ⟨i, k, b, s, n, z, t, c, d, x, y⟩)
  | 2, [d, k] => some (.concession d k)
  | 3, [u, a, b, f] => some (.band u a b f)
  | 4, [u, t, r] => some (.tier u t r)
  | 5, [u, m, b, k] => some (.global u m b k)
  | 6, [k, a, b, c, d, e, f, x, y, l, n, t, u] => some (.acceptance ⟨k, a, b, c, d, e, f, x, y, l, n, t, u⟩)
  | 7, [d, c, x, y] => some (.tube d c x y)
  | 8, [c] => some (.coinLimit c)
  | 9, [r, x, y] => some (.paper r x y)
  | 10, [w, x, o, a] => some (.journal w x o a)
  | 11, [a, n, w, h] => some (.timers a n w h)
  | 12, [m] => some (.noticeMode m)
  | _, _ => none

/-- A TABLE_WRITE body: table code, index, entry. -/
def tableWriteOf (body : List Byte) : Request :=
  match body with
  | t :: i :: bs =>
    match entryWidths t.toNat with
    | none => .tableWriteOther t.toNat
    | some ws =>
      match (fieldsOf ws bs).bind (entryOf t.toNat) with
      | some e => .tableWrite i.toNat e
      | none => .badLength
  | _ => .badLength

/-- A SALE_OPEN body (R209): at least 12 bytes, and the receipt lines end at the last byte. -/
def saleOpenOf (body : List Byte) : Request :=
  match fieldsOf [1, 1, 1, 1, 1, 1, 4, 1, 1] (body.take 12) with
  | some [p, z, q, c, d, y, t, r, n] =>
    match walkLines n (body.drop 12) with
    | some ls => .saleOpen ⟨p, z, q, c, d, y, t, r, ls⟩
    | none => .badLength
  | _ => .badLength

/-- A COIN_INHIBIT body: a count byte and the denominations. -/
def coinInhibitOf (body : List Byte) : Request :=
  match body with
  | [] => .badLength
  | n :: bs =>
    match fieldsOf (List.replicate n.toNat 4) bs with
    | some ds => .coinInhibit ds
    | none => .badLength

/-- A body of fixed fields. -/
def fixedOf (ws : List Nat) (body : List Byte) (f : List Nat → Option Request) : Request :=
  ((fieldsOf ws body).bind f).getD .badLength

/-- A body with no field. -/
def emptyOf (body : List Byte) (r : Request) : Request := if body = [] then r else .badLength

/-- The request a complete frame carries, by its code (section 11.3). -/
def requestOf (code : Nat) (body : List Byte) : Request :=
  match code with
  | 0x01 => emptyOf body .status
  | 0x02 => emptyOf body .identify
  | 0x03 => fixedOf [2, 3] body fun | [d, s] => some (.clockSet d s) | _ => none
  | 0x04 => fixedOf [1] body fun | [f] => some (.reset f) | _ => none
  | 0x05 => emptyOf body .shutdown
  | 0x06 => emptyOf body .serviceEnter
  | 0x07 => emptyOf body .serviceLeave
  | 0x08 => tableWriteOf body
  | 0x09 => fixedOf [1, 1] body fun | [t, i] => some (.tableRead t i) | _ => none
  | 0x10 => saleOpenOf body
  | 0x11 => emptyOf body .saleCancel
  | 0x12 => emptyOf body .cardRead
  | 0x13 => emptyOf body .laneRestore
  | 0x14 => coinInhibitOf body
  | 0x15 => fixedOf [1] body fun | [x] => some (.coinAudit x) | _ => none
  | 0x20 => emptyOf body .tubeRead
  | 0x21 => fixedOf [1, 1] body fun | [n, c] => some (.tubeSet n c) | _ => none
  | 0x22 => fixedOf [1, 1] body fun | [n, c] => some (.tubeDump n c) | _ => none
  | 0x28 => fixedOf [1, 1] body fun | [f, n] => some (.recoveryList f n) | _ => none
  | 0x29 => fixedOf [1] body fun | [n] => some (.recoveryDrop n) | _ => none
  | 0x30 => emptyOf body .paperLoaded
  | 0x31 => ((textLines body).map Request.printText).getD .badLength
  | 0x32 => fixedOf [1] body fun | [j] => some (.printCancel j) | _ => none
  | 0x33 => emptyOf body .printList
  | 0x38 => emptyOf body .busRead
  | 0x40 => fixedOf [1, 1] body fun | [o, n] => some (.journalRead o n) | _ => none
  | 0x41 => fixedOf [4, 1] body fun | [f, n] => some (.journalRelease f n) | _ => none
  | 0x42 => fixedOf [1, 1, 1] body fun | [s, c, r] => some (.totalsRead s c r) | _ => none
  | 0x43 => emptyOf body .totalsSnapshot
  | _ => .unknown

/-- The code of a request's frame (section 11.3); 0 for a request that names none. -/
def requestCode : Request → Nat
  | .status => 0x01
  | .identify => 0x02
  | .clockSet _ _ => 0x03
  | .reset _ => 0x04
  | .shutdown => 0x05
  | .serviceEnter => 0x06
  | .serviceLeave => 0x07
  | .tableWrite _ _ => 0x08
  | .tableWriteOther _ => 0x08
  | .tableRead _ _ => 0x09
  | .saleOpen _ => 0x10
  | .saleCancel => 0x11
  | .cardRead => 0x12
  | .laneRestore => 0x13
  | .coinInhibit _ => 0x14
  | .coinAudit _ => 0x15
  | .tubeRead => 0x20
  | .tubeSet _ _ => 0x21
  | .tubeDump _ _ => 0x22
  | .recoveryList _ _ => 0x28
  | .recoveryDrop _ => 0x29
  | .paperLoaded => 0x30
  | .printText _ => 0x31
  | .printCancel _ => 0x32
  | .printList => 0x33
  | .busRead => 0x38
  | .journalRead _ _ => 0x40
  | .journalRelease _ _ => 0x41
  | .totalsRead _ _ _ => 0x42
  | .totalsSnapshot => 0x43
  | .unknown => 0
  | .badLength => 0

/-- The bytes that text lines take with their length bytes. -/
def linesSize (ls : List (List Byte)) : Nat := (ls.map fun l => l.length + 1).sum

/-- The body length of a request given by its operands: only three requests can pass 240 bytes (R199). -/
def requestSize : Request → Nat
  | .saleOpen o => 12 + linesSize o.lines
  | .coinInhibit ds => 1 + 4 * ds.length
  | .printText ls => 1 + linesSize ls
  | _ => 0

/-- The lane that the lane byte names and the owner's RANGE refusal otherwise (R200). -/
def laneOr {α : Type} (lane : Nat) (bad : α) (f : Lane → α) : α :=
  match Lane.ofCode lane with
  | some l => f l
  | none => bad

/-- The characters a text line may hold (section 12.1). -/
def charOk (b : Byte) : Bool := 0x20 ≤ b.toNat && b.toNat ≤ 0x7E

/-- A text line of at most 32 allowed characters. -/
def lineOk (l : List Byte) : Bool := l.length ≤ 32 && l.all charOk

/-- What R209 tests at the point of the lane code: the coded operands and the receipt lines are in range. -/
def operandsCoded (o : SaleOperands) : Bool :=
  (o.delivery = 1 || o.delivery = 2) && (o.payment = 1 || o.payment = 2) && o.receipt ≤ 1 && o.lines.length ≤ 8 &&
  o.lines.all lineOk

def Delivery.ofCode (n : Nat) : Delivery := if n = 2 then .card else .paper

def Payment.ofCode (n : Nat) : Payment := if n = 2 then .cardValue else .coins

end Sys2Proof.Machine
end

