-- ==== Sys2Proof/Machine/Bus.lean ====
section
/-! DEFINITION. The device bus controller: placing and withdrawing requests and the grant (R154, R155), the phases of an
exchange (R156, R157) and its end (R159, R160). What the result means is decided by the CDU and the PRU. -/

namespace Sys2Proof.Machine

/-- The response deadline of a device in milliseconds (R152). -/
def Dev.deadline : Dev → Nat
  | .printer => 250
  | _ => 30

/-- The devices in circular order, beginning after the grant pointer (R155); no pointer counts as device 2 (R153). -/
def devOrder : Option Dev → List Dev
  | some .frontA => [.frontB, .printer, .frontA]
  | some .frontB => [.printer, .frontA, .frontB]
  | _ => [.frontA, .frontB, .printer]

/-- No request waits. -/
def Dbc.noneWaiting (d : Dbc) : Bool := (devOrder none).all fun x => (d.waiting.get x).isNone

/-- Grant the bus: the pointer, the holder, and its select with READY marked as it stands (R155, R156, R157). -/
def State.grant (s : State) (d : Dev) (r : BusReq) : State :=
  { s with dbc :=
    { s.dbc with
      current := some ⟨d, r, .sending, none, !s.dbc.readyHigh⟩
      waiting := s.dbc.waiting.set d none
      pointer := some d } }.drive (.select d)

/-- Place a request (R154, R155): granted at once on a free bus with none waiting, and waiting otherwise. -/
def State.place (s : State) (d : Dev) (r : BusReq) : State :=
  if s.dbc.current.isNone ∧ s.dbc.noneWaiting then s.grant d r
  else { s with dbc := { s.dbc with waiting := s.dbc.waiting.set d (some r) } }

/-- Withdraw a waiting request (R154); without one this has no effect. -/
def State.withdraw (s : State) (d : Dev) : State :=
  { s with dbc := { s.dbc with waiting := s.dbc.waiting.set d none } }

/-- The first device in an order that has a request waiting, with the request. -/
def Dbc.firstWaiting (b : Dbc) (order : List Dev) : Option (Dev × BusReq) :=
  order.findSome? fun d => (b.waiting.get d).map fun r => (d, r)

/-- The next grant at the end of an exchange, or a free bus (R155, R159 step 5). -/
def State.grantNext (s : State) : State :=
  match s.dbc.firstWaiting (devOrder s.dbc.pointer) with
  | some (d, r) => s.grant d r
  | none => { s with dbc := { s.dbc with current := none } }

/-- How an exchange ended (R158, R159). -/
inductive ExOutcome where
  | success (r : Response)
  | timeout
  | frameError
  deriving DecidableEq, Repr

/-- The last result an outcome leaves (R153). -/
def ExOutcome.last : ExOutcome → LastResult
  | .success .noCard => .noCard
  | .success .cardError => .cardError
  | .success (.paper _ _) => .paperState
  | .success _ => .ok
  | .timeout => .timeout
  | .frameError => .frameError

def ExOutcome.failed : ExOutcome → Bool
  | .success _ => false
  | _ => true

/-- The failure count after an outcome (R160). -/
def ExOutcome.count (o : ExOutcome) (n : Nat) : Nat := if o.failed then min (n + 1) 3 else 0

/-- Whether an outcome takes the count from 2 to 3, which reaches the fault (R160). -/
def ExOutcome.reaches (o : ExOutcome) (n : Nat) : Bool := o.failed && n = 2

/-- Steps 1 and 2 of R159: the select released, last result and failure count. The exchange stays in `current` until the
next grant, so that a request placed while the result is handed over joins the waiting set (log entry 8). READY stands high
again unless a device that is not selected holds it low (R157; log entry 22). -/
def State.endExchange (s : State) (d : Dev) (o : ExOutcome) : State :=
  { s with dbc :=
    { s.dbc with
      readyHigh := !s.dbc.heldLow
      last := s.dbc.last.set d o.last
      counts := s.dbc.counts.set d (o.count (s.dbc.counts.get d)) } }.drive (.deselect d)

/-! ## Phases (R156, R157) -/

/-- The last byte of the request is out: the deadline is set, and READY may already have been low and high again. -/
def State.busSent (s : State) : State :=
  match s.dbc.current with
  | some e =>
    if e.phase = .sending then
      let e1 := { e with deadline := some e.dev.deadline }
      let e2 := { e1 with phase := if e.seenLow ∧ s.dbc.readyHigh then .receiving else .waitingReady }
      { s with dbc := { s.dbc with current := some e2 } }
    else s
  | none => s

/-- READY goes low: seen in the exchange in progress, and without one held low by a device that is not selected (R157). -/
def State.busLow (s : State) : State :=
  { s with dbc :=
    { s.dbc with
      readyHigh := false
      heldLow := s.dbc.heldLow || s.dbc.current.isNone
      current := s.dbc.current.map fun e => { e with seenLow := true } } }

/-- READY goes high: the wait of WAITING_READY ends if it has been seen low. -/
def State.busRise (s : State) : State :=
  { s with dbc :=
    { s.dbc with
      readyHigh := true
      heldLow := false
      current := s.dbc.current.map fun e =>
        if e.phase = .waitingReady ∧ e.seenLow then { e with phase := .receiving } else e } }

end Sys2Proof.Machine
end

