-- ==== Sys2Proof/Machine/Flags.lean ====
section
/-! DEFINITION. What the part derives from its state and does not store: service levels (R3), the held gate (R55), a
tube's reserved and available coins (R78), the printer near end and print work finished (R144, R151), and the moment
of QUIESCED (R196). -/

namespace Sys2Proof.Machine

/-- The service level of a lane (R3). -/
def State.level (s : State) (l : Lane) : ServiceLevel :=
  if s.part = .service ∨ s.part = .quiesced then .out
  else match (s.lane l).cardFault, (s.lane l).coinFault with
    | false, false => .full
    | true, false => .cashOnly
    | false, true => .cardOnly
    | true, true => .out

/-- A service level that takes coins. -/
def ServiceLevel.coins : ServiceLevel → Bool
  | .full => true
  | .cashOnly => true
  | _ => false

/-- A service level that takes cards. -/
def ServiceLevel.cards : ServiceLevel → Bool
  | .full => true
  | .cardOnly => true
  | _ => false

/-- A sale is open on the lane (R1). -/
def State.saleOpen (s : State) (l : Lane) : Bool := (s.lane l).sale.isSome

/-- A sale is open on some lane. -/
def State.anySale (s : State) : Bool := s.saleOpen .a || s.saleOpen .b

/-- The accept gate of a lane is held closed (R55). -/
def State.gateHeld (s : State) (l : Lane) : Bool :=
  !(s.coin l).linkUp || (s.coin l).jam || s.part = .quiesced

/-! ## Tubes (R78) -/

/-- The coins a plan takes from a tube. -/
def planAt (p : Plan) (n : TubeNo) : Nat := ((p.filter fun x => x.1 = n).map Prod.snd).sum

/-- Reserved coins of a tube: the sum of the two lanes' reservations. -/
def State.reserved (s : State) (n : TubeNo) : Nat := planAt s.chu.res.a n + planAt s.chu.res.b n

/-- Available coins of a tube. -/
def State.available (s : State) (n : TubeNo) : Nat := (s.tube n).count - s.reserved n

/-- The availability question of a tube: "room" (R81). -/
def State.room (s : State) (n : TubeNo) : Bool := (s.tube n).count + (s.tube n).pendingIn < (s.tube n).capacity

/-! ## The printer (R144, R151) -/

/-- The printer is near end: its latest paper state is NEAR_END or OUT (R144). -/
def Pru.nearEnd (p : Pru) : Bool := p.paper = some .nearEnd || p.paper = some .out

/-- The job that is PRINTING, if one is. -/
def Pru.current (p : Pru) : Option Job := p.jobs.find? fun j => j.printing

/-- Some job is QUEUED. -/
def Pru.anyQueued (p : Pru) : Bool := p.jobs.any fun j => !j.printing

/-- Places taken in the job slots, reservations included (R134, Law 4). -/
def Pru.taken (p : Pru) : Nat := p.jobs.length + countLanes p.reserved.get

/-- The printer has stopped: PAPER_OUT or OFFLINE. -/
def PrinterState.stopped : PrinterState → Bool
  | .paperOut => true
  | .offline => true
  | _ => false

/-- The print work is finished (R151). -/
def Pru.finished (p : Pru) : Bool := p.current.isNone && (!p.anyQueued || p.printer.stopped)

/-! ## The moment of QUIESCED (R196) -/

/-- A resolution of a recovery entry is under way at the lane. -/
def State.resolving (s : State) (l : Lane) : Bool := (s.session l).res.isSome

/-- Both lanes are IDLE. -/
def State.bothIdle (s : State) : Bool := (s.lane .a).state = .idle && (s.lane .b).state = .idle

/-- All five conditions of R196 hold. -/
def State.shutdownDone (s : State) : Bool :=
  !s.anySale && s.bothIdle && !s.resolving .a && !s.resolving .b && s.chu.orders.isEmpty && s.chu.dump.isNone &&
  s.pru.finished

end Sys2Proof.Machine
end

