-- ==== Sys2Proof/Machine/Printer.lean ====
section
/-! DEFINITION. The print unit up to the reports it gives: creating, starting and ending jobs (R133 to R137, R140, R147),
the printer state and its conditions (R141, R142), paper accounting (R144) and notes (R148). What a lane does with a
ticket's outcome stands in Delivery.lean, what a bus result does to a job in Results.lean. -/

namespace Sys2Proof.Machine

/-! ## Lines (R136) -/

/-- A composed line as the printer may be sent it: at most 32 characters, each in 0x20..0x7E (R165). -/
def printable (l : List Byte) : List Byte := (l.take 32).map fun b => if charOk b then b else 0x20

/-- `n` composed lines of a job kind from the facts it is composed of. -/
def composed (k : JobKind) (n : Nat) (facts : List Nat) : List (List Byte) :=
  (List.range n).map fun i => printable (Config.lineText k.code facts i)

/-- The date and time of creation, as facts. -/
def timeFacts : Option Time → List Nat
  | none => [0]
  | some t => [1, t.day, t.second]

def optFacts : Option Nat → List Nat
  | none => [0]
  | some n => [1, n]

/-- The twelve lines of a ticket. -/
def State.ticketLines (s : State) (l : Lane) (x : Sale) : List (List Byte) :=
  composed .ticket 12 ([l.code, x.product, x.kind.code, x.zonesPriced, x.quantity, x.concession, x.price.getD 0, x.seq] ++
    timeFacts s.now ++ optFacts (x.validity.map Prod.fst) ++ optFacts (x.validity.map Prod.snd))

/-- The ten lines of a note. -/
def State.noteLines (s : State) (l : Lane) (x : Sale) (out : SaleOutcome) : List (List Byte) :=
  composed .note 10 ([l.code, x.seq] ++ timeFacts s.now ++ [x.shortfall, x.changePaid, x.refundPaid, out.code])

/-- The lines of a receipt: eight composed lines and those given at SALE_OPEN. -/
def State.receiptLines (s : State) (x : Sale) (debited : Nat) : List (List Byte) :=
  composed .receipt 8 ([x.seq, x.product, x.price.getD 0, x.coinsReceived, x.changePaid, x.shortfall] ++
    optFacts (x.serial.map ofBe) ++ [debited] ++ timeFacts s.now) ++ x.receiptLines

/-! ## Exchanges for the printer (R137 to R139, R141) -/

/-- What the printer is asked for next: a wanted status first, then the next line or the cut of the job that is
PRINTING. -/
def Pru.wanted (p : Pru) : Option (PrintUse × BusReq) :=
  if p.statusWanted then some (.status, .printerStatus)
  else match p.current with
    | some j => match j.lines[j.printed]? with
      | some t => some (.line, .line t)
      | none => some (.feedCut, .feedCut)
    | none => none

/-- Place the next exchange when none is outstanding. -/
def State.printNext (s : State) : State :=
  match s.pru.use, s.pru.wanted with
  | none, some (u, r) =>
    { s with pru :=
      { s.pru with
        use := some u
        statusWanted := if u = PrintUse.status then false else s.pru.statusWanted } }.place .printer r
  | _, _ => s

/-- Request a PRINTER_STATUS exchange. -/
def State.wantStatus (s : State) : State := { s with pru := { s.pru with statusWanted := true } }.printNext

/-! ## Paper and printer state (R141, R142, R144) -/

/-- PAPER_LOW is set to `low`, with its declaration or clearing. -/
def State.setPaperLow (s : State) (low : Bool) : State :=
  let t := { s with pru := { s.pru with paperLow := low } }
  if low then t.declare .paperLow else t.clear .paperLow

/-- Re-evaluate PAPER_LOW (R144). -/
def State.evalPaperLow (s : State) : State :=
  let p := s.pru
  if p.paperLow then
    if p.lowClear ≤ p.linesRemaining ∧ !p.nearEnd then s.setPaperLow false else s
  else if p.linesRemaining ≤ p.lowDeclare ∨ p.nearEnd then s.setPaperLow true
  else s

/-- The condition of a stopped printer state. -/
def PrinterState.cond : PrinterState → Option Cond
  | .paperOut => some .paperOut
  | .offline => some .printerOffline
  | _ => none

/-- The ticket hold timer after a change of printer state (R142). -/
def holdAfter (old new : PrinterState) (h : HoldTimer) : HoldTimer :=
  if new = .ready then .stopped else if new.stopped ∧ !old.stopped then .running else h

/-- The printer state changes (R142): the condition left is cleared, the one entered declared, the hold timer follows. -/
def State.setPrinter (s : State) (new : PrinterState) : State :=
  let old := s.pru.printer
  if new = old then s
  else
    let s1 := { s with pru := { s.pru with printer := new, hold := holdAfter old new s.pru.hold } }
    let s2 := match old.cond with
      | some c => s1.clear c
      | none => s1
    match new.cond with
    | some c => s2.declare c
    | none => s2

/-- The printer state that a paper and a cover state stand for (R141). -/
def printerOf (p : Paper) (c : Cover) : PrinterState :=
  if c = .open then .offline else if p = .out then .paperOut else .ready

/-! ## Jobs (R133 to R137) -/

/-- The next id after `n`: 255 is followed by 1. -/
def idAfter (n : Nat) : Nat := if n < 255 then n + 1 else 1

/-- The counter's value with ids of jobs in slots skipped; eight jobs can make it skip at most eight times. -/
def freeId (jobs : List Job) : Nat → Nat → Nat
  | 0, n => n
  | fuel + 1, n => if jobs.any (fun j => j.id = n) then freeId jobs fuel (idAfter n) else n

/-- Take the job of an id out of its slot. -/
def Pru.drop (p : Pru) (id : Nat) : Pru := { p with jobs := p.jobs.filter fun j => j.id ≠ id }

/-- Change the job of an id. -/
def Pru.modify (p : Pru) (id : Nat) (f : Job → Job) : Pru :=
  { p with jobs := p.jobs.map fun j => if j.id = id then f j else j }

/-- The first class of R133: TICKET and NOTE. -/
def JobKind.first : JobKind → Bool
  | .ticket => true
  | .note => true
  | _ => false

/-- The job of lowest age among some jobs. -/
def oldest : List Job → Option Job
  | [] => none
  | j :: js => match oldest js with
    | some k => if k.age < j.age then some k else some j
    | none => some j

/-- The job R137 takes next. -/
def Pru.choice (p : Pru) : Option Job :=
  let q := p.jobs.filter fun j => !j.printing
  match oldest (q.filter fun j => j.kind.first) with
  | some j => some j
  | none => oldest q

/-- Start a job when the printer is READY, none is PRINTING and one is QUEUED (R137). -/
def State.printStart (s : State) : State :=
  if s.pru.printer = .ready ∧ s.pru.current = none then
    match s.pru.choice with
    | some j =>
      ({ s with pru := s.pru.modify j.id fun x => { x with printing := true } }.setPrinter .printing).printNext
    | none => s
  else s

/-- Put a new job in QUEUED in a slot; the answer is its id. -/
def State.addJob (s : State) (k : JobKind) (l : Option Lane) (seq : Nat) (lines : List (List Byte)) : State × Nat :=
  let id := freeId s.pru.jobs 8 s.pru.nextId
  ({ s with pru :=
    { s.pru with
      jobs := s.pru.jobs ++ [⟨id, k, l, seq, lines, 0, s.pru.nextAge, false, false⟩]
      nextId := idAfter id
      nextAge := s.pru.nextAge + 1 } }, id)

/-- The PRINT notice of a job's end (R147). -/
def Job.notice (j : Job) (out : JobOutcome) : Notice :=
  .print (some j.id) j.kind j.lane j.seq out j.printed j.lines.length

/-- A job leaves its slot with an outcome and its notice. -/
def State.endJob (s : State) (j : Job) (out : JobOutcome) : State :=
  { s with pru := s.pru.drop j.id }.notify (j.notice out)

/-- Create a job that needs a free slot (R135): the job's id, or NOT_QUEUED with its notice. -/
def State.askJob (s : State) (k : JobKind) (l : Option Lane) (seq : Nat) (lines : List (List Byte)) :
    State × Option Nat :=
  if s.pru.taken < 8 then
    let t := s.addJob k l seq lines
    (t.1.printStart, some t.2)
  else (s.notify (.print none k l seq .notQueued 0 lines.length), none)

/-! ## Notes (R148) -/

/-- Store the NOTE record of a note in its reservation. -/
def State.storeNote (s : State) (l : Lane) (seq shortfall : Nat) (printed : Bool) (job : Option Nat) : State :=
  s.store (.note l seq shortfall printed job s.now)

/-- Remove a pending note and store its record (R148); its reservation is given up first. -/
def State.settleNote (s : State) (n : PendingNote) (printed : Bool) (job : Option Nat) : State :=
  { s with pru := { s.pru with notes := s.pru.notes.filter fun m => m ≠ n } }.storeNote n.lane n.seq n.shortfall
    printed job

/-- A note is asked for at a sale's close (R23 step 2, R148); the sale's second reservation has been passed to it. -/
def State.askNote (s : State) (l : Lane) (x : Sale) (out : SaleOutcome) : State :=
  let lines := s.noteLines l x out
  if s.pru.taken < 8 then
    let t := s.addJob .note (some l) x.seq lines
    { t.1 with pru := { t.1.pru with notes := t.1.pru.notes ++ [PendingNote.mk l x.seq x.shortfall t.2] } }.printStart
  else (s.notify (.print none .note (some l) x.seq .notQueued 0 10)).storeNote l x.seq x.shortfall false none

/-- A NOTE attempt that failed goes back to QUEUED, from its first line, with its age (R148). -/
def State.requeueNote (s : State) (j : Job) : State :=
  { s with pru := s.pru.modify j.id fun x => { x with printing := false, printed := 0 } }.notify (j.notice .failed)

/-- The pending note of a job. -/
def Pru.noteOf (p : Pru) (id : Nat) : Option PendingNote := p.notes.find? fun n => n.job = id

/-- A printed note's record is stored with its job id (R148). -/
def State.notePrinted (s : State) (j : Job) : State :=
  match s.pru.noteOf j.id with
  | some n => s.settleNote n true (some j.id)
  | none => s

/-- The jobs of some kinds that are QUEUED end with an outcome (R151), in the order of their creation (log entry 59). -/
def State.endQueued (s : State) (kinds : List JobKind) (out : JobOutcome) : State :=
  (s.pru.jobs.filter fun j => !j.printing && j.kind ∈ kinds).foldl (fun t j => t.endJob j out) s

/-! ## Reservations and receipts (R134, R135, R151) -/

/-- The PRU's part of check 7 of SALE_OPEN (R134). -/
def Pru.canReserve (p : Pru) : Bool := !p.printer.stopped && 12 ≤ p.linesRemaining && p.taken < 8

def State.setTicketSlot (s : State) (l : Lane) (x : Bool) : State :=
  { s with pru := { s.pru with reserved := s.pru.reserved.set l x } }

/-- A RECEIPT request (R23 step 7): after the power-warning line it ends NOT_QUEUED (R151). -/
def State.askReceipt (s : State) (l : Lane) (x : Sale) (debited : Nat) : State :=
  let lines := s.receiptLines x debited
  if s.warned then s.notify (.print none .receipt (some l) x.seq .notQueued 0 lines.length)
  else (s.askJob .receipt (some l) x.seq lines).1

/-- Turn a lane's reservation into its TICKET job (R134); false when the job ended FAILED at once because the hold
timer stands expired (R142). -/
def State.queueTicket (s : State) (l : Lane) (x : Sale) : State × Bool :=
  let t := (s.setTicketSlot l false).addJob .ticket (some l) x.seq (s.ticketLines l x)
  if t.1.pru.hold = .expired then
    match t.1.pru.jobs.getLast? with
    | some j => (t.1.endJob j .failed, false)
    | none => (t.1, false)
  else (t.1.printStart, true)

end Sys2Proof.Machine
end

