-- ==== Sys2Proof/Machine/Payout.lean ====
section
/-! DEFINITION. The change unit up to the reports it gives: payout plans (R84, R85), change assurance (R86), release of
a reservation (R87), dispatch and ejection (R89, R90), write-off (R92 to R94) and dumps (R98, R99). What a lane does
with a completion report stands in Close.lean. -/

namespace Sys2Proof.Machine

/-! ## Plans (R84, R85) -/

/-- A used tube as a plan sees it: number, denomination and limit a(n). -/
structure Limit where
  tube : TubeNo
  denom : Nat
  most : Nat
  deriving DecidableEq, Repr

/-- Put a tube into the order of R84: denomination descending, equal ones in the order they come. -/
def insertLimit (x : Limit) : List Limit → List Limit
  | [] => [x]
  | y :: ys => if y.denom < x.denom then x :: y :: ys else y :: insertLimit x ys

/-- From `k` coins of one tube down to none: the first count for which `rest` makes the remainder. -/
def tryDown (tube : TubeNo) (denom amount coins : Nat) (rest : Nat → Nat → Option Plan) : Nat → Option Plan
  | 0 => rest amount coins
  | k + 1 =>
    if (k + 1) * denom ≤ amount then
      match rest (amount - (k + 1) * denom) (coins - (k + 1)) with
      | some p => some ((tube, k + 1) :: p)
      | none => tryDown tube denom amount coins rest k
    else tryDown tube denom amount coins rest k

/-- The preferred choice of exactly `coins` coins that makes `amount` from tubes in the order of R84. -/
def exactly : List Limit → Nat → Nat → Option Plan
  | [], amount, coins => if amount = 0 ∧ coins = 0 then some [] else none
  | x :: xs, amount, coins => tryDown x.tube x.denom amount coins (exactly xs) (min x.most coins)

/-- The plan for an amount (R84): the fewest coins within the budget, and among those the preferred choice. -/
def planFor (xs : List Limit) (amount budget : Nat) : Option Plan :=
  (List.range (budget + 1)).findSome? fun c => exactly xs amount c

/-- The best partial plan for an amount (R85): the amount it pays and the plan. -/
def partialFor (xs : List Limit) (budget : Nat) : Nat → Nat × Plan
  | 0 => (0, [])
  | m + 1 => match planFor xs (m + 1) budget with
    | some p => (m + 1, p)
    | none => partialFor xs budget m

/-- The value the limits allow at most. -/
def limitValue (xs : List Limit) : Nat := (xs.map fun x => x.most * x.denom).sum

/-- The best partial plan, looked for from the largest amount the limits could pay (R85). -/
def bestPartial (xs : List Limit) (amount budget : Nat) : Nat × Plan :=
  partialFor xs budget (min amount (limitValue xs))

/-- The limits of a lane: a(n) = count(n) less what the other lane has reserved, for each used tube (R86 step 1). -/
def State.limits (s : State) (l : Lane) : List Limit :=
  (TubeNo.all.filter fun n => (s.tube n).denom ≠ 0).foldl
    (fun xs n => insertLimit ⟨n, (s.tube n).denom, (s.tube n).count - planAt (s.chu.res.get l.other) n⟩ xs) []

/-! ## Reservations and low states (R82, R83) -/

def State.setRes (s : State) (l : Lane) (p : Plan) : State :=
  { s with chu := { s.chu with res := s.chu.res.set l p } }

/-- Set a tube's low state, with its declaration or clearing. -/
def State.setLow (s : State) (n : TubeNo) (low : Bool) : State :=
  let t := s.setTube n { s.tube n with low := low }
  if low then t.declare (.tubeLow n) else t.clear (.tubeLow n)

/-- Re-evaluate a used tube's low state (R83). -/
def State.evalLow (s : State) (n : TubeNo) : State :=
  let t := s.tube n
  if t.denom = 0 then s
  else if t.low then (if t.l2 ≤ s.available n then s.setLow n false else s)
  else if s.available n ≤ t.l1 then s.setLow n true
  else s

/-- Re-evaluate every tube, for an event that changes reservations (R83): in ascending tube number (log entry 53). -/
def State.evalLows (s : State) : State := TubeNo.all.foldl State.evalLow s

/-- Set a tube's low state from the values held (R83: at power-on, RESET and on leaving SERVICE). -/
def State.startLow (s : State) (n : TubeNo) : State :=
  if (s.tube n).denom = 0 then s.setLow n false else s.setLow n (s.available n ≤ (s.tube n).l1)

/-- The low states of every tube set from the values held (R83), in ascending tube number (log entry 53). -/
def State.startLows (s : State) : State := TubeNo.all.foldl State.startLow s

/-- Change assurance for a lane's overpay (R86): the answer, and the state after it. -/
def State.assure (s : State) (l : Lane) (amount : Nat) : State × Bool :=
  match planFor (s.limits l) amount s.chu.coinLimit with
  | some p => ((s.setRes l p).evalLows.clear (.exactChange l), true)
  | none => (s.declare (.exactChange l), false)

/-- The LC asks for its lane's reservation to be released (R87). -/
def State.releaseRes (s : State) (l : Lane) : State := (s.setRes l []).evalLows.clear (.exactChange l)

/-! ## Coins entering and leaving tubes (R81) -/

def State.setCount (s : State) (n : TubeNo) (c : Nat) : State := s.setTube n { s.tube n with count := c }

/-- A coin enters a tube (committed, released or re-targeted): count, low state and totals (R76, R81, R83). -/
def State.tubeCoin (s : State) (n : TubeNo) (denom : Nat) : State :=
  ((s.setCount n ((s.tube n).count + 1)).evalLow n).tally fun t => t.addCoins .toTubes denom 1

def State.pendUp (s : State) (n : TubeNo) : State := s.setTube n { s.tube n with pendingIn := (s.tube n).pendingIn + 1 }

def State.pendDown (s : State) (n : TubeNo) : State :=
  s.setTube n { s.tube n with pendingIn := (s.tube n).pendingIn - 1 }

/-- Put a coin into cashbox contents kept in ascending order of denomination (R74). -/
def boxAdd (d : Nat) : List (Nat × Nat) → List (Nat × Nat)
  | [] => [(d, 1)]
  | (e, n) :: rest =>
    if d < e then (d, 1) :: (e, n) :: rest else if d = e then (e, n + 1) :: rest else (e, n) :: boxAdd d rest

/-- A coin enters the cashbox: contents and totals (R74, R76). -/
def State.boxCoin (s : State) (denom : Nat) : State :=
  { s with ciu := { s.ciu with boxCoins := boxAdd denom s.ciu.boxCoins, boxValue := s.ciu.boxValue + denom } }.tally
    fun t => t.addCoins .toBox denom 1

/-! ## Dispensing (R89 to R91) -/

/-- Pulse a tube and start the first wait (R90). -/
def State.pulse (s : State) (n : TubeNo) : State :=
  { s with chu := { s.chu with wait := some ⟨n, false⟩ } }.drive (.eject n)

/-- Pulse for the next coin of the dispensing order's plan, if its lane's reservation has one left. -/
def State.ejectNext (s : State) : State :=
  match s.chu.orders with
  | o :: _ => match s.chu.res.get o.lane with
    | (n, _) :: _ => s.pulse n
    | [] => s
  | [] => s

/-- Form the plan of the order at the head of the queue (R89) and pulse for its first coin. -/
def State.dispatch (s : State) : State :=
  match s.chu.orders with
  | [] => s
  | o :: rest =>
    if o.kind = .change ∧ s.chu.res.get o.lane ≠ [] then s.ejectNext
    else
      let b := bestPartial (s.limits o.lane) o.amount s.chu.coinLimit
      let o1 := { o with shortfall := o.amount - b.1, atDispatch := o.amount - b.1 }
      (({ s with chu := { s.chu with orders := o1 :: rest } }.setRes o.lane b.2).evalLows).ejectNext

/-- The pairs of a plan after one coin of a tube: its pair falls by 1 and goes at 0 (R82). -/
def planLess (n : TubeNo) (p : Plan) : Plan :=
  (p.map fun x => if x.1 = n then (x.1, x.2 - 1) else x).filter fun x => x.2 ≠ 0

/-- The LC's part of a confirmed coin (R90). -/
def Sale.addPaid (k : OrderKind) (d : Nat) (x : Sale) : Sale :=
  match k with
  | .change => { x with changePaid := x.changePaid + d }
  | .refund => { x with refundPaid := x.refundPaid + d }

/-- A confirmation counts a coin for the dispensing order (R90), up to the next pulse. -/
def State.countCoin (s : State) (o : Order) (rest : List Order) (n : TubeNo) : State :=
  let d := (s.tube n).denom
  let o1 := { o with paid := o.paid + d, coins := o.coins + 1 }
  let s1 := s.setCount n ((s.tube n).count - 1)
  let s2 := s1.setRes o.lane (planLess n (s1.chu.res.get o.lane))
  let s3 := { s2 with chu := { s2.chu with orders := o1 :: rest, wait := none } }
  (((s3.modSale o.lane (Sale.addPaid o.kind d)).evalLow n).tally fun t => t.addCoins .paidOut d 1).ejectNext

/-- Take every pair on a tube out of a plan (R92 step 2). -/
def planWithout (n : TubeNo) (p : Plan) : Plan := p.filter fun x => x.1 ≠ n

/-- A correction list after `k` coins more of a tube were written off (R92 step 1). -/
def addCorrection (n : TubeNo) (k : Nat) (cs : List (TubeNo × Nat)) : List (TubeNo × Nat) :=
  if cs.any (fun c => c.1 = n) then cs.map fun c => if c.1 = n then (c.1, c.2 + k) else c else cs ++ [(n, k)]

/-- The overpay a lane is owed: coins received less its price (R94). -/
def Sale.overpay (x : Sale) : Nat := x.coinsReceived - x.price.getD 0

/-- Re-assure the other lane's reservation after a write-off (R94). -/
def State.reassure (s : State) (l : Lane) : State :=
  match (s.lane l).sale with
  | some x => match planFor (s.limits l) x.overpay s.chu.coinLimit with
    | some p => (s.setRes l p).clear (.exactChange l)
    | none => (s.setRes l []).declare (.exactChange l)
  | none => s.setRes l []

/-- Re-plan the dispensing order after a write-off (R93): its shortfall is the one found at dispatch and this re-plan's. -/
def State.replan (s : State) (o : Order) (rest : List Order) : State :=
  let remainder := o.amount - o.paid
  let s1 := s.setRes o.lane []
  let b := bestPartial (s1.limits o.lane) remainder (s1.chu.coinLimit - o.coins)
  let o1 := { o with shortfall := o.atDispatch + (remainder - b.1) }
  { s1 with chu := { s1.chu with orders := o1 :: rest } }.setRes o.lane b.2

/-- A write-off of a tube while an order is dispensing (R92), up to the next pulse. Step 5 is R83's test (log entry 55). -/
def State.writeOff (s : State) (o : Order) (rest : List Order) (n : TubeNo) : State :=
  let k := (s.tube n).count
  let o1 := { o with corrections := addCorrection n k o.corrections }
  -- step 1
  let s1 := ({ s with chu := { s.chu with orders := o1 :: rest, wait := none } }.setCount n 0).tally
    fun t => t.addCoins .written (s.tube n).denom k
  -- step 2
  let held := s.chu.res.get o.lane.other ≠ []
  let s2 := { s1 with chu := { s1.chu with res := ⟨planWithout n s1.chu.res.a, planWithout n s1.chu.res.b⟩ } }
  -- steps 3 to 5
  let s3 := s2.replan o1 rest
  let s4 := if held then s3.reassure o.lane.other else s3
  s4.evalLows.ejectNext

/-! ## Dumps (R98, R99) -/

/-- The TUBE notice and record of a dump that has ended. -/
def State.dumpRecord (s : State) (d : Dump) : TubeRecord :=
  ⟨d.tube, (s.tube d.tube).denom, true, d.before, (s.tube d.tube).count, d.toBox, d.toCup, d.written, s.now⟩

/-- The dump ends: the diverter returns to the cup, and the notice and the record are made. -/
def State.endDump (s : State) (d : Dump) : State :=
  let r := s.dumpRecord d
  ({ s with chu := { s.chu with dump := none, wait := none, diverterBox := false } }.notify (.tube r)).storeOther (.tube r)

/-- A coin of a dump is confirmed: to the cashbox, or to the cup after a removal (R98, R99). -/
def State.dumpCoin (s : State) (d : Dump) : State :=
  let s1 := ({ s with chu := { s.chu with wait := none } }.setCount d.tube ((s.tube d.tube).count - 1)).evalLow d.tube
  if d.stopped then
    (s1.tally fun t => t.addCoins .paidOut (s.tube d.tube).denom 1).endDump { d with toCup := d.toCup + 1 }
  else
    let d1 := { d with toBox := d.toBox + 1 }
    let s2 := s1.boxCoin (s.tube d.tube).denom
    if d1.toBox < d1.asked then { s2 with chu := { s2.chu with dump := some d1 } }.pulse d.tube else s2.endDump d1

/-- A second missed wait of a dump: the tube is written off and the dump ends (R99). Its low state follows R83's test, so a LOW
tube with L2 at 0 becomes NOT_LOW (log entry 55). -/
def State.dumpMissed (s : State) (d : Dump) : State :=
  let k := (s.tube d.tube).count
  let s1 := ((s.setCount d.tube 0).tally fun t => t.addCoins .written (s.tube d.tube).denom k).evalLow d.tube
  s1.endDump { d with written := d.written + k }

/-- The cashbox switch opens during a dump (R99): no further pulse, and without a coin in flight the dump ends. -/
def State.dumpRemoval (s : State) : State :=
  match s.chu.dump with
  | some d =>
    let s1 := { s with chu := { s.chu with dump := some { d with stopped := true }, diverterBox := false } }
    if s1.chu.wait.isSome then s1 else s1.endDump { d with stopped := true }
  | none => s

end Sys2Proof.Machine
end

