-- ==== Sys2Proof/Machine/CardOps.lean ====
section
/-! DEFINITION. The card unit's view of a card (R102 to R104, R114), the card session's operations (R105, R109, R154) and
the recovery table's operations (R121 to R128, R130). What a lane does with a card stands in Delivery.lean and
Cards.lean. -/

namespace Sys2Proof.Machine

/-! ## A card as read (R102 to R104) -/

/-- Block `i` of an image; an image that lacks it gives no bytes, which no test takes for a block. -/
def blockAt (bs : List Block) (i : Nat) : Block := bs.getD i []

/-- What R103 works out from the two purse copies. -/
structure PurseView where
  balance : Option Nat
  counter : Option Nat
  /-- The block number of the target copy. -/
  target : Option Nat
  new : Bool
  deriving DecidableEq, Repr

/-- The balance state, active counter and target copy of a card (R103). -/
def purseView (bs : List Block) : PurseView :=
  let a := purseFields (blockAt bs 1)
  let b := purseFields (blockAt bs 2)
  match copyTag (blockAt bs 1), copyTag (blockAt bs 2) with
  | .valid, .valid =>
    if a.counter < b.counter then ⟨some b.balance, some b.counter, some 1, false⟩
    else ⟨some a.balance, some a.counter, some 2, false⟩
  | .valid, _ => ⟨some a.balance, some a.counter, some 2, false⟩
  | _, .valid => ⟨some b.balance, some b.counter, some 1, false⟩
  | .empty, .empty => ⟨some 0, some 0, some 1, true⟩
  | _, _ => ⟨none, none, none, false⟩

/-- The state of pass slot `i` (R104). -/
def slotState (bs : List Block) (i : Nat) : SlotState :=
  let b := blockAt bs (3 + i)
  if blockEmpty b then .empty
  else match slotParse b with
    | none => .damaged
    | some x => match (purseView bs).counter with
      | none => .undetermined
      | some c => if x.stamp ≤ c then .confirmed else .unconfirmed

/-- A well-formed slot is expired when its valid-until day is below today (R104). -/
def slotExpired (bs : List Block) (today i : Nat) : Bool :=
  match slotParse (blockAt bs (3 + i)) with
  | some x => x.validUntil < today && !blockEmpty (blockAt bs (3 + i))
  | none => false

/-- A slot is free (R104). `named` says that a DETACHED entry for the serial names it. -/
def slotFree (bs : List Block) (today : Nat) (named : Nat → Bool) (i : Nat) : Bool :=
  match slotState bs i with
  | .empty => true
  | .damaged => true
  | .unconfirmed => !named i
  | _ => slotExpired bs today i && !named i

/-- The chosen slot: the free slot with the lowest index (R104). -/
def chosenSlot (bs : List Block) (today : Nat) (named : Nat → Bool) : Option Nat :=
  [0, 1, 2, 3].find? (slotFree bs today named)

/-- The UNCONFIRMED slots apart from one, in ascending index (R114). -/
def clearing (bs : List Block) (but : Option Nat) : List Nat :=
  [0, 1, 2, 3].filter fun i => slotState bs i = .unconfirmed && some i ≠ but

/-! ## The recovery table -/

/-- The entry at a number. -/
def Crt.entry (c : Crt) (n : Nat) : Option CrtEntry := (c.entries[n]?).join

/-- The number of entries. -/
def Crt.count (c : Crt) : Nat := c.entries.countP Option.isSome

/-- The number of reservations. -/
def Crt.reservations (c : Crt) : Nat := countLanes c.reserved.get

/-- The number of the entry for a serial, if one stands (Law 3: at most one does). -/
def Crt.find (c : Crt) (serial : Serial) : Option Nat :=
  c.entries.findIdx? fun e => match e with
    | some x => x.serial = serial
    | none => false

/-- Some entry is DETACHED. -/
def Crt.anyDetached (c : Crt) : Bool :=
  c.entries.any fun e => match e with
    | some x => !x.attached
    | none => false

/-- A serial stands under a claim of some lane. -/
def Crt.claimed (c : Crt) (serial : Serial) : Bool := c.claims.a = some serial || c.claims.b = some serial

/-- A DETACHED entry for the serial names slot `i`. -/
def Crt.names (c : Crt) (serial : Serial) (i : Nat) : Bool :=
  c.entries.any fun e => match e with
    | some x => !x.attached && decide (x.serial = serial) && decide (x.slot.map Prod.fst = some i)
    | none => false

def State.setEntry (s : State) (n : Nat) (e : Option CrtEntry) : State :=
  { s with crt := { s.crt with entries := s.crt.entries.set n e } }

def State.setClaim (s : State) (l : Lane) (c : Option Serial) : State :=
  { s with crt := { s.crt with claims := s.crt.claims.set l c } }

def State.setCrtRes (s : State) (l : Lane) (b : Bool) : State :=
  { s with crt := { s.crt with reserved := s.crt.reserved.set l b } }

/-- The answer of the entry check (R124). -/
inductive EntryAnswer where
  | none
  | attached (l : Lane)
  | detached (n : Nat)
  deriving DecidableEq, Repr

/-- The entry check for a serial polled at a lane (R124). -/
def State.entryCheck (s : State) (l : Lane) (serial : Serial) : EntryAnswer :=
  if s.crt.claims.get l.other = some serial then .attached l.other
  else match s.crt.find serial with
    | some n => match s.crt.entry n with
      | some e => if e.attached then .attached e.lane else .detached n
      | none => .none
    | none => .none

/-- The first free number (R121). -/
def Crt.freeNo (c : Crt) : Option Nat := c.entries.findIdx? Option.isNone

/-- An entry is made DETACHED (R125). -/
def State.detach (s : State) (n : Nat) : State :=
  match s.crt.entry n with
  | some e => s.setEntry n (some { e with attached := false })
  | none => s

/-- The RECOVERY record of an entry (R128). -/
def State.recoveryRecord (s : State) (n : Nat) (e : CrtEntry) (resolving : Option Lane) (counter : Option Nat)
    (v : Verdict) (cause : Option ConflictCause) : RecoveryRecord :=
  ⟨n, e.serial, e.lane, resolving, e.kind, e.saleSeq, e.expected, counter, e.balance, e.credit, v, cause, s.now⟩

/-- An entry's deferral-reported flag is clear (R121, R128). -/
def CrtEntry.unreported (e : CrtEntry) : CrtEntry := { e with deferralReported := false }

/-- The deferral-reported flags are cleared, as SERVICE and QUIESCED are entered (R121). -/
def State.clearFlags (s : State) : State :=
  { s with crt := { s.crt with entries := s.crt.entries.map fun e => e.map CrtEntry.unreported } }

/-- Abandon an entry whose record has been admitted (R130, R131). Its RECOVERY notice names no lane (log entry 65). -/
def State.abandon (s : State) (n : Nat) (e : CrtEntry) : State :=
  ((s.store (.recovery (s.recoveryRecord n e none none .abandoned none))).setEntry n none).notify
    (.recovery none n .abandoned)

/-- The entry has expired on day `today` (R130). -/
def CrtEntry.expired (e : CrtEntry) (hold today : Nat) : Bool :=
  match e.created with
  | some t => t.day + hold < today
  | none => false

/-- The expiry of one entry, if it is DETACHED, unclaimed and due (R130). -/
def State.expire (s : State) (due : CrtEntry → Bool) (n : Nat) : State :=
  match s.crt.entry n with
  | some e =>
    if !e.attached ∧ due e then
      if s.crt.claimed e.serial then s
      else if s.admits then s.abandon n e
      else s.setEntry n (some { e with expiryPending := true })
    else s
  | none => s

/-- The sixteen entry numbers. -/
def entryNumbers : List Nat := List.range 16

/-- The check at a day change (R130). -/
def State.expiryCheck (s : State) : State :=
  entryNumbers.foldl (State.expire · fun e => e.expired s.timers.holdDays s.clk.day) s

/-- Some expiry waits for its retry (R130). -/
def Crt.anyPending (c : Crt) : Bool :=
  c.entries.any fun e => match e with
    | some x => x.expiryPending
    | none => false

/-- The retry at a minute (R130): the pending entries, and those found under a claim at the day change. -/
def State.expiryRetry (s : State) : State :=
  if s.crt.anyPending then
    entryNumbers.foldl (State.expire · fun e => e.expiryPending || e.expired s.timers.holdDays s.clk.day) s
  else s

/-! ## The card session -/

/-- The lane's request stands in the DBC's waiting set. -/
def State.cardWaits (s : State) (l : Lane) : Bool := (s.dbc.waiting.get (Dev.ofLane l)).isSome

/-- Place an exchange for a lane; behind a LANE_RESTORE check it waits for that check's end (R154). -/
def State.cardPlace (s : State) (l : Lane) (u : CardUse) (r : BusReq) : State :=
  let c := s.session l
  match c.use with
  | none => (s.setSession l { c with use := some u }).place (Dev.ofLane l) r
  | some _ => s.setSession l { c with behind := some (u, r) }

/-- A HALT is to be sent, or its result is awaited. -/
def Session.halting (c : Session) : Bool :=
  c.use = some .halt || c.behind.map Prod.fst = some .halt

/-- The phase of a session whose purpose calls for polls (R105). -/
def Session.restPhase (c : Session) : CardPhase := if c.halting then .ending else .polling

/-- A HALT that a purpose's end leaves alone: one in flight, whose result ENDING waits for (R105), and any HALT where no
purpose stands to end. -/
def State.haltStays (s : State) (l : Lane) : Bool :=
  (s.session l).use = some .halt && ((s.session l).purpose = .none || !s.cardWaits l)

/-- Take back or give up the lane's outstanding exchange as its purpose ends (R109, R154): a waiting request, a HALT among
them, is withdrawn, one behind a LANE_RESTORE check is dropped, and one in flight has its result discarded. The check itself is
left as it is. -/
def State.dropExchange (s : State) (l : Lane) : State :=
  let c := s.session l
  let c1 := { c with behind :=
    if c.purpose = .none ∧ c.behind.map Prod.fst = some .halt then c.behind else none }
  if c.use = none ∨ c.use = some .restore ∨ s.haltStays l then s.setSession l c1
  else if s.cardWaits l then (s.setSession l { c1 with use := none }).withdraw (Dev.ofLane l)
  else s.setSession l { c1 with discard := true }

/-- The part of `dropExchange` that lets a waiting LANE_RESTORE check be placed once the lane's request is withdrawn. -/
def State.restoreNext (s : State) (l : Lane) : State :=
  let c := s.session l
  if c.restoreWaiting ∧ c.use = none then
    (s.setSession l { c with use := some .restore, restoreWaiting := false }).place (Dev.ofLane l) .fieldPoll
  else s

/-- The LC ends the lane's purpose (R109). A DETACHED resolution keeps the session (R129); anything else is cut off, and a
claim set for DELIVERY ends (R124). -/
def State.endPurpose (s : State) (l : Lane) : State :=
  let c := s.session l
  match c.res with
  | some r =>
    if r.detached then s.setSession l { c with next := .none, res := some { r with aside := true } }
    else cut s
  | none => cut s
where
  /-- Cut the session's work off. -/
  cut (s : State) : State :=
    let s1 := (s.dropExchange l).restoreNext l
    (s1.setSession l { s1.session l with
      purpose := .none, phase := .idle, serial := none, current := [], write := none, res := none,
      next := .none, pendingAt := none }).setClaim l none

/-- The LC sets a purpose that calls for polls; while a resolution keeps the session it is taken up at its end. -/
def State.setPurpose (s : State) (l : Lane) (p : Purpose) : State :=
  let c := s.session l
  if c.res.isSome then s.setSession l { c with next := p }
  else s.setSession l { c with
    purpose := p, phase := c.restPhase, serial := none, current := [], write := none, pendingAt := none }

/-- Idle recovery polling is called for at a lane (R28, R106). -/
def State.scanWanted (s : State) (l : Lane) : Bool :=
  (s.lane l).state = .idle && s.part = .inUse && s.crt.anyDetached

/-- Set or end the IDLE_SCAN purpose as the lane, the part and the recovery table stand (R28, R125). -/
def State.refreshScan (s : State) (l : Lane) : State :=
  let c := s.session l
  if s.scanWanted l then (if c.purpose = .none ∧ c.res = none then s.setPurpose l .idleScan else s)
  else if (s.lane l).state = .idle ∧ c.purpose = .idleScan ∧ c.res = none then s.endPurpose l
  else s

/-- Send HALT (R109): the session ends its use of the card. Where the purpose ends in the same event, that comes first and HALT
is asked for after it (log entry 61). -/
def State.sendHalt (s : State) (l : Lane) : State :=
  let t := s.cardPlace l .halt .halt
  t.setSession l { t.session l with
    phase := if (s.session l).purpose = .none then .idle else .ending
    serial := none
    current := []
    write := none }

/-- Back to polling, the card counted as not having answered (R107). The images of a write sequence that ended in doubt
stay in the session (R118). -/
def State.backToPolling (s : State) (l : Lane) : State :=
  let c := s.session l
  s.setSession l { c with phase := .polling, serial := none, current := [], pendingAt := none }

/-- Report TOPUP credit to the totals (R117, R126). -/
def State.credit (s : State) (e : CrtEntry) : State :=
  if e.kind = .topup then s.tally fun t => t.addCredit e.credit else s

/-! ## Write sequences (R114, R115) -/

/-- The block writes of a sequence in order: the pass slot, the cleared slots, the purse image. -/
def writeList (slotImage : Option (Nat × Block)) (clear : List Nat) (target : Nat) (purse : Block) :
    List (Nat × Block) :=
  (match slotImage with
    | some (i, b) => [(3 + i, b)]
    | none => []) ++ clear.map (fun i => (3 + i, emptyBlock)) ++ [(target, purse)]

/-- A sequence about to begin. -/
def WriteSeq.make (slotImage : Option (Nat × Block)) (purse : Block) (target : Nat) (clear : List Nat) : WriteSeq :=
  ⟨slotImage, purse, target, clear, writeList slotImage clear target purse, 0⟩

/-- Request the next exchange of a lane's sequence: the next write, or the read-back (R115). -/
def State.writeNext (s : State) (l : Lane) (w : WriteSeq) : State :=
  match w.todo with
  | (n, b) :: _ =>
    (s.setSession l { s.session l with phase := .writing, write := some { w with issued := w.issued + 1 } }).cardPlace
      l .write (.blockWrite n b)
  | [] =>
    (s.setSession l { s.session l with phase := .writing, write := some w }).cardPlace l .readBack
      (.blockRead w.target)

/-- The images of a re-application of an entry to a card just read (R118): none when the card has no target copy. -/
def CrtEntry.sequence (e : CrtEntry) (bs : List Block) : Option WriteSeq :=
  (purseView bs).target.map fun t =>
    WriteSeq.make (e.slot.map fun x => (x.1, slotBlock x.2)) (purseBlock e.balance e.expected e.lane e.day) t
      (clearing bs (e.slot.map Prod.fst))

/-- An image with the blocks of a finished sequence put in place (R128). -/
def applyWrites (bs : List Block) (w : WriteSeq) : List Block :=
  (writeList w.slotImage w.clear w.target w.purse).foldl (fun img x => img.set x.1 x.2) bs

end Sys2Proof.Machine
end

