-- ==== Sys2Proof/Machine/Close.lean ====
section
/-! DEFINITION. The end of a sale at its lane controller: changes of lane state and their notices (R8), close (R23 to
R25), escrow release and return (R20, R22, R67 to R69), payout orders and their completion (R21, R88, R95). -/

namespace Sys2Proof.Machine

/-! ## Lane state and timer -/

/-- The six lane states in which a sale is open (R1). -/
def LaneState.selling : LaneState → Bool
  | .idle => false
  | .enquiry => false
  | .recovering => false
  | _ => true

/-- The lane state changes; with a sale open the SALE notice is queued (R8). The CARD_WAIT kind stands in that state
only. A lane with a sale enters only the six states that have one, and a lane without only the other three (R1). A state entered
again, as CARD_WAIT (IN_DOUBT) by R19, is no change and gives no notice (log entry 63). -/
def State.enter (s : State) (l : Lane) (st : LaneState) : State :=
  let c := s.lane l
  match c.sale with
  | some x =>
    if st.selling then
      let x1 := { x with waitKind := if st = .cardWait then x.waitKind else none }
      let t := s.setLane l { c with state := st, sale := some x1 }
      if c.state = st then t
      else t.notify (.sale l x1.seq st x1.price x1.coinsReceived x1.conds x1.waitKind none none)
    else s
  | none => if st.selling then s else s.setLane l { c with state := st }

/-- Start or restart the lane timer. -/
def State.startTimer (s : State) (l : Lane) (seconds : Nat) : State :=
  s.setLane l { s.lane l with timer := some seconds }

/-- Stop the lane timer. -/
def State.stopTimer (s : State) (l : Lane) : State := s.setLane l { s.lane l with timer := none }

/-! ## The sale record (R25) -/

/-- The card value debited: the price for CARD_VALUE payment and an outcome that keeps it (R25). -/
def Sale.debited (x : Sale) (out : SaleOutcome) : Nat :=
  if x.payment = .cardValue ∧ out.kept then x.price.getD 0 else 0

/-- The sale record built at close (R25). -/
def Sale.record (x : Sale) (l : Lane) (closed : Option Time) (out : SaleOutcome) : SaleRecord where
  seq := x.seq
  lane := l
  product := x.product
  kind := x.kind
  zones := x.zonesPriced
  quantity := x.quantity
  concession := x.concession
  price := x.price.getD 0
  conds := x.conds
  coinsReceived := x.coinsReceived
  escrowReturned := x.escrowReturned
  committed := x.committed
  cardDebited := x.debited out
  changePaid := x.changePaid
  refundPaid := x.refundPaid
  shortfall := x.shortfall
  delivery := x.delivery
  serial := x.serial
  slot := x.slot
  entryNo := if out = .closedInDoubt then x.entryNo else none
  corrections := x.corrections
  opened := x.opened
  closed := closed
  outcome := out

/-! ## Close (R23) -/

/-- A sale closes with an outcome, and for REFUSED_AT_CARD its reason (R8, R23). -/
def State.closeSale (s : State) (l : Lane) (out : SaleOutcome) (why : Option CardRefusal) : State :=
  match (s.lane l).sale with
  | none => s
  | some x =>
    -- step 1
    let s1 := (s.stopTimer l).releaseRes l
    -- steps 2 to 4: the second reservation passes to the note or is released
    let s2 := s1.modSale l fun y => { y with journalRes := 1 }
    let s3 := if 0 < x.shortfall then s2.askNote l x out else s2
    let rec_ := x.record l s.now out
    let s4 := ((s3.setCrtRes l false).setTicketSlot l false).endPurpose l
    let s5 := s4.setSession l { s4.session l with priced := none }
    -- step 5: the record takes the first reservation
    let s6 := (s5.setLane l { s5.lane l with sale := none }).store (.sale rec_)
    -- step 6
    let s7 := (s6.enter l .idle).notify
      (.sale l x.seq .idle x.price x.coinsReceived x.conds none (some out) why)
    -- step 7
    if x.receipt ∧ out.kept then s7.askReceipt l x (x.debited out) else s7

/-- The outcome of a sale whose escrow is kept (R20): CLOSED_IN_DOUBT when bound for it, otherwise COMPLETED. -/
def Sale.keptOutcome (x : Sale) : SaleOutcome := if x.bound then .closedInDoubt else .completed

/-! ## Payout orders (R88, R95) -/

/-- The lane takes a completion report (R21, R22): shortfall and corrections, and the sale closes. The PAYOUT notice is
queued before the closing SALE notice (log entry 41). -/
def State.orderReport (s : State) (o : Order) : State :=
  let short := o.amount - o.paid
  let s1 := (s.tally fun t => t.addShortfall short).notify
    (.payout o.kind o.lane o.seq o.amount o.paid short o.corrections)
  match (s.lane o.lane).sale with
  | some x =>
    let s2 := s1.modSale o.lane fun y =>
      { y with shortfall := y.shortfall + short, corrections := y.corrections ++ o.corrections }
    s2.closeSale o.lane (match o.kind with
      | .change => x.keptOutcome
      | .refund => x.refundOutcome.getD .interrupted) none
  | none => s1

/-- The order at the head completes when its plan is empty (R95): it leaves the queue, the waiting order is dispatched, and
the report is given. Where the order dispatched has an empty plan and completes at once, its report comes after this one (log
entry 47). -/
def State.completeHead (s : State) : State :=
  match s.chu.orders with
  | o :: rest =>
    if s.chu.res.get o.lane = [] then
      ({ s with chu := { s.chu with orders := rest } }.dispatch).orderReport o
    else s
  | [] => s

/-- Complete the orders whose plans are empty; at most two stand in the queue. -/
def State.completeOrders (s : State) : State := s.completeHead.completeHead

/-- Place an order (R88): dispatched at once when it is alone; of amount 0 it completes without entering the queue. -/
def State.placeOrder (s : State) (k : OrderKind) (l : Lane) (seq amount : Nat) : State :=
  let o : Order := ⟨k, l, seq, amount, 0, 0, 0, 0, []⟩
  if amount = 0 then s.orderReport o
  else
    let t := { s with chu := { s.chu with orders := s.chu.orders ++ [o] } }
    if s.chu.orders = [] then t.dispatch.completeOrders else t

/-! ## Escrow (R20, R22, R67 to R69) -/

/-- The change still owed: coins received less the price and the change paid. -/
def Sale.changeOwed (x : Sale) : Nat := x.coinsReceived - x.price.getD 0 - x.changePaid

def State.setTray (s : State) (l : Lane) (tray : List TrayEntry) (op : TrayOp) : State :=
  s.setCoin l { s.coin l with tray := tray, trayOp := op }

/-- The release is complete (R20): PAYOUT for the change owed, which ends the card purpose (R109), or the sale closes. -/
def State.released (s : State) (l : Lane) : State :=
  let s1 := s.setCoin l { s.coin l with trayOp := .none }
  match (s.lane l).sale with
  | some x =>
    if 0 < x.changeOwed then ((s1.enter l .payout).endPurpose l).placeOrder .change l x.seq x.changeOwed
    else s1.closeSale l x.keptOutcome none
  | none => s1

/-- The LC asks for the release of its tray (R20, R67). -/
def State.release (s : State) (l : Lane) : State :=
  let s1 := s.setCoin l { s.coin l with released := 0, trayOp := .releasing }
  if (s.coin l).tray = [] then s1.released l else s1

/-- The value of a tray. -/
def trayValue (tray : List TrayEntry) : Nat := (tray.map TrayEntry.denom).sum

/-- The lowest tube of a denomination with room (R68). -/
def State.retarget (s : State) (denom : Nat) : Option TubeNo :=
  TubeNo.all.find? fun n => (s.tube n).denom = denom && denom ≠ 0 && s.room n

/-- Where the oldest entry of a release goes now: its own target, another tube with the cashbox absent, or nowhere. -/
def State.releaseTarget (s : State) (e : TrayEntry) : Option Target :=
  match e.target with
  | .tube n => some (.tube n)
  | .cashbox => if s.ciu.boxPresent then some .cashbox else (s.retarget e.denom).map .tube

/-- A coin arrives at a target. -/
def State.arrive (s : State) (t : Target) (denom : Nat) : State :=
  match t with
  | .tube n => s.tubeCoin n denom
  | .cashbox => s.boxCoin denom

/-- An entry leaves the pending coins of the tube it was counted for. -/
def State.unpend (s : State) (t : Target) : State :=
  match t with
  | .tube n => s.pendDown n
  | .cashbox => s

/-- The sale sequence at a lane, if a sale is open. -/
def State.seqAt (s : State) (l : Lane) : Option Nat := (s.lane l).sale.map Sale.seq

/-- Take the oldest entry of a release (R67, R68). -/
def State.releaseEntry (s : State) (l : Lane) : State :=
  match (s.coin l).tray with
  | [] => s
  | e :: rest =>
    match s.releaseTarget e with
    | none =>
      (s.setTray l (e :: rest) .paused).notify (.escrow l ((s.seqAt l).getD 0) false (trayValue (e :: rest)))
    | some t =>
      let s1 := ((s.unpend e.target).arrive t e.denom).drive (.route l t)
      let s2 := s1.setCoin l { s1.coin l with tray := rest, released := (s1.coin l).released + e.denom }
      if rest = [] then s2.released l else s2

/-- A return is complete (R22, R69): the value goes to escrow returned, and a REFUND order or the close follows. -/
def State.returned (s : State) (l : Lane) (value : Nat) : State :=
  let s1 := (s.setTray l [] .none).modSale l fun y => { y with escrowReturned := y.escrowReturned + value }
  match (s.lane l).sale with
  | some x =>
    let owed := x.committed - x.refundPaid
    if 0 < owed then s1.placeOrder .refund l x.seq owed
    else s1.closeSale l (x.refundOutcome.getD .interrupted) none
  | none => s1

/-- The tray has been tipped out (R69): pending coins, the ESCROW returns and the report. -/
def State.returnTray (s : State) (l : Lane) : State :=
  let tray := (s.coin l).tray
  let s1 := tray.foldl (fun t e => t.unpend e.target) s
  (s1.tally fun t => t.addReturns l .escrow tray.length).returned l (trayValue tray)

/-- The LC asks for the return of its tray (R69): an empty tray is returned at once, and its flap stays closed (log entry 52). -/
def State.askReturn (s : State) (l : Lane) : State :=
  if (s.coin l).tray = [] then s.returned l 0
  else (s.setTray l (s.coin l).tray .returning).drive (.returnFlap l)

/-- The lane enters REFUNDING with an outcome (R22). -/
def State.refund (s : State) (l : Lane) (out : SaleOutcome) : State :=
  let s1 := (s.stopTimer l).modSale l fun x => { x with refundOutcome := some out }
  (((s1.enter l .refunding).endPurpose l).releaseRes l).askReturn l

end Sys2Proof.Machine
end

