-- ==== Sys2Proof/Machine/Delivery.lean ====
section
/-! DEFINITION. The lane controller between payment and release: the card checked and priced (R10, R111), entry to PAYING
and DELIVERING (R14, R16, R17), and what the reports of the PRU and the CDU do to the sale (R16 to R19). -/

namespace Sys2Proof.Machine

/-! ## Paper delivery (R16) -/

/-- A sale's delivery is over: verified, or bound for CLOSED_IN_DOUBT. -/
def Sale.delivered (x : Sale) : Bool := x.verified || x.bound

/-- The delivery of the lane's open sale is over. -/
def State.deliveryOver (s : State) (l : Lane) : Bool :=
  match (s.lane l).sale with
  | some x => x.delivered
  | none => false

/-- The lane is in DELIVERING and waits for its ticket's outcome (R16). -/
def State.awaitsTicket (s : State) (l : Lane) : Bool := (s.lane l).state = .delivering && !s.deliveryOver l

/-- The TICKET outcome PRINTED, taken by a lane that waits for it: the delivery is verified and the escrow released. -/
def State.ticketPrinted (s : State) (l : Lane) : State :=
  if s.awaitsTicket l then (s.modSale l fun x => { x with verified := true }).release l else s

/-- The TICKET outcome FAILED, taken by a lane that waits for it. -/
def State.ticketFailed (s : State) (l : Lane) : State :=
  if s.awaitsTicket l then s.refund l .deliveryFailed else s

/-- Entry to DELIVERING (R16, R17): the ticket job for paper, polling for the sale's card otherwise. -/
def State.deliver (s : State) (l : Lane) : State :=
  let s1 := (s.stopTimer l).enter l .delivering
  match (s.lane l).sale with
  | some x =>
    if x.delivery = .paper then
      let t := (s1.modSale l fun y => { y with ticketSlot := false }).queueTicket l x
      if t.2 then t.1 else t.1.ticketFailed l
    else s1.setPurpose l .delivery
  | none => s1

/-- Entry to PAYING (R14). -/
def State.startPaying (s : State) (l : Lane) : State := (s.enter l .paying).startTimer l s.timers.inactivity

/-! ## Card delivery (R17 to R19) -/

/-- The lane is in the states of card delivery and its delivery is not over: it waits for the CDU's reports of a write (R17 to
R19). -/
def State.awaitsWrite (s : State) (l : Lane) : Bool :=
  ((s.lane l).state = .delivering || (s.lane l).state = .cardWait) && !s.deliveryOver l

/-- The lane enters CARD_WAIT of a kind, with the timer at the card window (R17, R18). -/
def State.waitCard (s : State) (l : Lane) (k : WaitKind) : State :=
  if s.awaitsWrite l then
    ((s.modSale l fun x => { x with waitKind := some k }).enter l .cardWait).startTimer l s.timers.window
  else s

/-- The CDU reports the card not present before any write (R113). -/
def State.cardAbsent (s : State) (l : Lane) : State :=
  if (s.lane l).state = .delivering then s.waitCard l .preWrite else s

/-- The CDU reports a definite failure (R18, R113). -/
def State.cardFailed (s : State) (l : Lane) : State := if s.awaitsWrite l then s.refund l .deliveryFailed else s

/-- The lane is back in DELIVERING with its timer stopped (R17, R19). -/
def State.resume (s : State) (l : Lane) : State := (s.stopTimer l).enter l .delivering

/-- The sale's card has answered (R17): in CARD_WAIT (PRE_WRITE) the timer stops and the lane returns to DELIVERING. -/
def State.cardAnswered (s : State) (l : Lane) : State :=
  match (s.lane l).state, (s.lane l).sale with
  | .cardWait, some x => if x.waitKind = some .preWrite then s.resume l else s
  | _, _ => s

/-- The sale no longer holds an entry. -/
def Sale.noEntry (x : Sale) : Sale := { x with entryNo := none, entryAttached := false, recoveryRes := false }

/-- The delivery is verified by the card (R18, R19): the escrow is released. The DELIVERY purpose stands until the HALT that
follows has its result (R105; log entry 21). -/
def State.cardVerified (s : State) (l : Lane) : State :=
  if s.awaitsWrite l then
    ((s.modSale l fun x => { x.noEntry with verified := true }).resume l).release l
  else s

/-- The resolution of the attached entry ended in CONFLICT (R19): bound for CLOSED_IN_DOUBT with no entry number. -/
def State.cardConflict (s : State) (l : Lane) : State :=
  if s.awaitsWrite l then
    ((s.modSale l fun x => { x.noEntry with bound := true }).resume l).release l
  else s

/-- The card window runs out in CARD_WAIT (IN_DOUBT) (R19): the entry is made DETACHED and its number stays. A re-application
under way is cut off without a CARD_WRITE notice (log entry 48). -/
def State.doubtExpired (s : State) (l : Lane) : State :=
  match (s.lane l).sale with
  | some x =>
    let s1 := match x.entryNo with
      | some n => s.detach n
      | none => s
    let s2 := (s1.modSale l fun y => { y with entryAttached := false, bound := true }).resume l
    (s2.endPurpose l).release l
  | none => s

/-! ## The card read for a sale (R10, R111, R112) -/

/-- The reason that a pricing refusal gives at the card (R10). A sale that was opened is never refused UNKNOWN_PRODUCT or
RANGE (R6). -/
def PriceRefusal.atCard : PriceRefusal → Option CardRefusal
  | .zoneRange => some .zoneRange
  | .inexact => some .inexact
  | .overCeiling => some .overCeiling
  | .amountRange => some .amountRange
  | .zeroPrice => some .zeroPrice
  | .topupLimit => some .topupLimit
  | .limit => some .limit
  | .unknownProduct => none
  | .range => none

/-- Steps 1 to 3 of R10 as the CDU answers them (R111): the first failure. -/
def Sale.cardCheck (x : Sale) (img : CardImage) : Option CardRefusal :=
  let v := purseView img.blocks
  if x.kind = .pass ∧ img.chosen = none then some .cardFull
  else if v.counter = some 65535 then some .cardExhausted
  else if v.balance = none then some .cardUnreadable
  else none

/-- The pricing question for a card delivery (R38). -/
def State.priceAtCard (s : State) (x : Sale) (balance : Option Nat) : Pricing :=
  s.fcu.price s.clk x.product x.zonesAsked x.quantity x.concession x.topup x.delivery x.payment balance

/-- What a priced answer adds to the sale (R10, R38). -/
def Sale.priced (x : Sale) (q : Quote) (slot : Option Nat) : Sale :=
  { x with
    price := some q.price
    conds := q.conds
    zonesPriced := q.zones
    validity := q.validity
    bonus := q.bonus
    purse := q.purse.getD 0
    slot := slot }

/-- Step 5 of R10: the comparison for CARD_VALUE payment. -/
def Sale.compareCheck (x : Sale) (balance : Option Nat) (price : Nat) : Option CardRefusal :=
  if x.payment = .cardValue then
    match compareBalance balance price with
    | .less => some .insufficientValue
    | .unordered => some .cardUnreadable
    | _ => none
  else none

/-- The card of a sale that waits for it is checked and priced (R10). -/
def State.judgeCard (s : State) (l : Lane) (x : Sale) (img : CardImage) : State :=
  match x.cardCheck img with
  | some why => s.closeSale l .refusedAtCard (some why)
  | none =>
    let k := (purseView img.blocks).balance
    match s.priceAtCard x k with
    | .refused code c => (s.modSale l fun y => { y with conds := c }).closeSale l .refusedAtCard code.atCard
    | .priced q =>
      match x.compareCheck k q.price with
      | some why =>
        (s.modSale l fun y => { y with conds := q.conds, zonesPriced := q.zones }).closeSale l .refusedAtCard (some why)
      | none =>
        let s1 := s.modSale l fun y => y.priced q (if y.kind = .pass then img.chosen else none)
        if x.payment = .cardValue ∨ q.price = 0 then s1.deliver l else (s1.endPurpose l).startPaying l

/-- The card read for SALE_READ is taken by the lane, which waits for it in AWAIT_CARD only (R9, R10). -/
def State.saleCard (s : State) (l : Lane) (img : CardImage) : State :=
  match (s.lane l).state, (s.lane l).sale with
  | .awaitCard, some x => s.judgeCard l x img
  | _, _ => s

/-! ## Faults of a lane (R3, R4) -/

/-- Whether a card write of the lane's sale has been requested (R4, R116). -/
def State.writeIssued (s : State) (l : Lane) : Bool :=
  match (s.session l).write with
  | some w => 0 < w.issued
  | none => false

/-- The card path fault acts on the open sale (R4). -/
def State.cardFaultOnSale (s : State) (l : Lane) (x : Sale) : State :=
  match (s.lane l).state with
  | .awaitCard => s.closeSale l .laneFault none
  | .paying => if x.delivery = .card then s.refund l .laneFault else s
  | .delivering =>
    if x.delivery = .card ∧ !x.verified ∧ !x.bound ∧ !s.writeIssued l then
      let s1 := match x.entryNo with
        | some n => s.setEntry n none
        | none => s
      (s1.modSale l Sale.noEntry).refund l .laneFault
    else s
  | .cardWait => if x.waitKind = some .preWrite then s.refund l .laneFault else s
  | _ => s

/-- A read under way for ENQUIRY or IDLE_SCAN stops at a card path fault; a resolution runs on (R106). -/
def State.stopRead (s : State) (l : Lane) : State :=
  let c := s.session l
  if (c.purpose = .enquiry ∨ c.purpose = .idleScan) ∧ c.res = none ∧ (c.use = some .poll ∨ c.use = some .read) then
    let t := (s.dropExchange l).restoreNext l
    t.backToPolling l
  else s

/-- The LC takes the fault report of its front-end (R3, R4, R160). -/
def State.takeCardFault (s : State) (l : Lane) : State :=
  if (s.lane l).cardFault then s
  else
    let s1 := (s.setLane l { s.lane l with cardFault := true }).declare (.cardPath l)
    match (s.lane l).sale with
    | some x => s1.cardFaultOnSale l x
    | none => s1.stopRead l

end Sys2Proof.Machine
end

