-- ==== Sys2Proof/Machine/Coins.lean ====
section
/-! DEFINITION. The coin intake unit: signs of life and the head link (R52, R53), the path and jam states (R54), the
search of the acceptance table (R57, R58), the classification of a coin (R60 to R64) and of an audit coin (R73), and
the cashbox switch (R75). -/

namespace Sys2Proof.Machine

/-! ## The acceptance table (R56 to R58) -/

/-- A coin record (R52). -/
structure CoinRec where
  diam : Nat
  thick : Nat
  cond : Nat
  cls : Nat
  good : Bool
  deriving DecidableEq, Repr

def laneNamed (e : AcceptFields) (l : Lane) : Bool := e.laneMask = 3 || e.laneMask = l.code

/-- The class code and the entry's code agree on every bit of the mask (R57). -/
def codeAgrees (code mask cls : Nat) : Bool := (code &&& mask) = (cls &&& mask)

/-- The entry recognises the record on the lane (R57). Kind codes: WINDOW 1, CODE 2, DISABLED 3. -/
def recognises (e : AcceptFields) (l : Lane) (c : CoinRec) : Bool :=
  laneNamed e l &&
  (if e.kind = 1 then
    e.diamLo ≤ c.diam && c.diam ≤ e.diamHi && e.thickLo ≤ c.thick && c.thick ≤ e.thickHi &&
    e.condLo ≤ c.cond && c.cond ≤ e.condHi
  else if e.kind = 2 then codeAgrees e.code e.codeMask c.cls
  else false)

/-- The target of an ACCEPT action, none for REJECT_SLUG. Action codes: ACCEPT_TUBE 1, ACCEPT_CASHBOX 2. -/
def acceptTarget (e : AcceptFields) : Option Target :=
  if e.action = 1 then (TubeNo.ofCode e.tube).map .tube else if e.action = 2 then some .cashbox else none

/-- Why a recognising entry is passed over, if it is (R58, R73). -/
def State.passedOver (s : State) (l : Lane) (e : AcceptFields) : Option PassedCause :=
  if e.denom ≠ 0 ∧ e.denom ∈ (s.coin l).inhibits then some .inhibited
  else match acceptTarget e with
    | some (.tube n) => if s.room n then none else some .tubeFull
    | some .cashbox => if s.ciu.boxPresent then none else some .cashboxOut
    | none => none

/-- What the search of the table found: the first match with its index, and the entries passed over before it. -/
structure Search where
  found : Option (Nat × AcceptFields)
  passed : List (Nat × PassedCause)
  deriving DecidableEq, Repr

/-- The search in index order, from an index on (R57, R58). -/
def State.searchFrom (s : State) (l : Lane) (c : CoinRec) : Nat → List AcceptFields → Search
  | _, [] => ⟨none, []⟩
  | i, e :: es =>
    if recognises e l c then
      match s.passedOver l e with
      | some why => let r := s.searchFrom l c (i + 1) es; ⟨r.found, (i, why) :: r.passed⟩
      | none => ⟨some (i, e), []⟩
    else s.searchFrom l c (i + 1) es

def State.search (s : State) (l : Lane) (c : CoinRec) : Search := s.searchFrom l c 0 s.ciu.accept

/-! ## Classification (R12, R60 to R64) -/

/-- The LC's answer to "are coins wanted?" (R12): none for yes, otherwise the return reason. -/
def State.unwanted (s : State) (l : Lane) : Option ReturnReason :=
  match (s.lane l).state with
  | .paying => none
  | .idle => some .noSale
  | .enquiry => some .noSale
  | .recovering => some .noSale
  | .refunding => some .saleClosed
  | _ => some .notPaying

/-- A coin is returned with a reason (R61): the total and the COIN notice. -/
def State.returnCoin (s : State) (l : Lane) (why : ReturnReason) (m : Option (Nat × AcceptFields)) : State :=
  (s.tally fun t => t.addReturns l why 1).notify
    (.coin l (s.seqAt l) (.returned why) (m.map Prod.fst) ((m.map fun x => x.2.denom).getD 0))

/-- The LC takes the report of a coin taken or committed (R12 to R14). -/
def State.coinTaken (s : State) (l : Lane) (denom : Nat) (committed : Bool) : State :=
  let s1 := s.modSale l fun x =>
    { x with
      coinsReceived := x.coinsReceived + denom
      committed := if committed then x.committed + denom else x.committed }
  match (s1.lane l).sale with
  | some x => if x.price.getD 0 ≤ x.coinsReceived then s1.deliver l else s1.startTimer l s.timers.inactivity
  | none => s1

/-- Take a coin into the tray, or commit it when the tray is full (R62), with its reports (R64, R76). The COIN notice comes
before the SALE notice of a coin that ends PAYING (log entry 46). -/
def State.takeCoin (s : State) (l : Lane) (index denom : Nat) (t : Target) : State :=
  let s0 := s.tally fun x => x.addCoins .accepted denom 1
  if (s.coin l).tray.length < 8 then
    let s1 := s0.setCoin l { s0.coin l with tray := (s0.coin l).tray ++ [⟨denom, t⟩] }
    let s2 := match t with
      | .tube n => s1.pendUp n
      | .cashbox => s1
    (((s2.drive (.gate l none)).notify (.coin l (s.seqAt l) (.taken t) (some index) denom))).coinTaken l denom false
  else
    ((((s0.arrive t denom).drive (.gate l (some t))).notify
      (.coin l (s.seqAt l) (.committed t) (some index) denom))).coinTaken l denom true

/-- The LC's answer to "may the coin be taken?" (R13), with the state after change assurance. -/
def State.mayTake (s : State) (l : Lane) (denom : Nat) : State × Bool :=
  match (s.lane l).sale with
  | some x =>
    let sum := x.coinsReceived + denom
    let price := x.price.getD 0
    if sum ≤ price then (s, true) else s.assure l (sum - price)
  | none => (s, false)

/-- Steps 3 to 7 of R60 for a lane that wants coins. -/
def State.classify (s : State) (l : Lane) (c : CoinRec) : State :=
  if s.gateHeld l then s.returnCoin l .gateClosed none
  else if !c.good then s.returnCoin l .badRead none
  else
    let r := s.search l c
    match r.found with
    | none => s.returnCoin l .unknown none
    | some (i, e) => match acceptTarget e with
      | none => s.returnCoin l .slug (some (i, e))
      | some t =>
        let a := s.mayTake l e.denom
        if a.2 then a.1.takeCoin l i e.denom t else a.1.returnCoin l .noChange (some (i, e))

/-- The would-be action of a match (R73). -/
def wouldBe (e : AcceptFields) : WouldBe :=
  match acceptTarget e with
  | some t => .accept t
  | none => .slug

/-- The audit classification (R73). -/
def State.auditCoin (s : State) (l : Lane) (c : CoinRec) : State :=
  let tell := fun (m : Option Nat) (w : WouldBe) (why : Option ReturnReason) (passed : List (Nat × PassedCause)) =>
    s.notify (.audit l c.diam c.thick c.cond c.cls c.good m w why (passed.take 4))
  if s.gateHeld l then tell none .none (some .gateClosed) []
  else if !c.good then tell none .none (some .badRead) []
  else
    let r := s.search l c
    match r.found with
    | none => tell none .none (some .unknown) r.passed
    | some (i, e) => tell (some i) (wouldBe e) none r.passed

/-- A coin record is classified (R60). -/
def State.coinRecord (s : State) (l : Lane) (c : CoinRec) : State :=
  if (s.coin l).audit then s.auditCoin l c
  else match s.unwanted l with
    | some why => s.returnCoin l why none
    | none => s.classify l c

/-! ## Head link, path and jam (R52 to R54) -/

/-- A record is taken from the head: with its fault state clear it is a sign of life, which ends a loss (R52, R53). -/
def State.signOfLife (s : State) (l : Lane) : State :=
  if !(s.coin l).headFault ∧ !(s.coin l).linkUp then
    (s.setCoin l { s.coin l with linkUp := true }).clear (.headLost l)
  else s

/-- 2 s have passed with no sign of life (R53): the link is LOST and the lane's coin path fault is set (R3). The time
held in the path state stops counting (R54). -/
def State.linkLost (s : State) (l : Lane) : State :=
  if (s.coin l).linkUp then
    let s1 := (s.setCoin l { s.coin l with linkUp := false, counting := false }).declare (.headLost l)
    s1.setLane l { s1.lane l with coinFault := true }
  else s

/-- The path-blocked flag of a status record (R54); while the link is LOST it is not taken. -/
def State.pathFlag (s : State) (l : Lane) (blocked : Bool) : State :=
  if (s.coin l).linkUp then s.setCoin l { s.coin l with blocked := blocked, counting := true } else s

/-- The path has been BLOCKED for 2 s (R54). -/
def State.jamBegins (s : State) (l : Lane) : State :=
  let c := s.coin l
  if c.linkUp ∧ c.blocked ∧ c.counting ∧ !c.jam then
    (s.setCoin l { c with jam := true }).declare (.coinJam l)
  else s

/-- The path has been CLEAR for 1 s (R54). -/
def State.jamEnds (s : State) (l : Lane) : State :=
  let c := s.coin l
  if c.linkUp ∧ !c.blocked ∧ c.counting ∧ c.jam then
    (s.setCoin l { c with jam := false }).clear (.coinJam l)
  else s

/-! ## The cashbox switch (R75) -/

/-- The CASHBOX record of the contents as they stand, and the contents emptied (R75). -/
def State.emptyBox (s : State) (found : Bool) : State :=
  let t := s.storeOther (.cashbox s.ciu.boxCoins s.ciu.boxValue s.now found)
  { t with ciu := { t.ciu with boxCoins := [], boxValue := 0 } }

/-- The switch opens (R75), and a dump under way is stopped (R99). -/
def State.boxRemoved (s : State) : State :=
  if s.ciu.boxPresent then
    let s1 := s.emptyBox false
    ({ s1 with ciu := { s1.ciu with boxPresent := false } }.declare .cashboxOut).dumpRemoval
  else s

/-- A paused release resumes (R68). -/
def State.resumeRelease (s : State) (l : Lane) : State :=
  let c := s.coin l
  if c.trayOp = .paused then
    (s.setCoin l { c with trayOp := .releasing }).notify (.escrow l ((s.seqAt l).getD 0) true (trayValue c.tray))
  else s

/-- The switch closes (R75). Releases paused at both lanes resume with lane A's first (log entry 38). -/
def State.boxReplaced (s : State) : State :=
  if s.ciu.boxPresent then s
  else ({ s with ciu := { s.ciu with boxPresent := true } }.clear .cashboxOut).forLanes State.resumeRelease

end Sys2Proof.Machine
end

