-- ==== Sys2Proof/Machine/Cards.lean ====
section
/-! DEFINITION. The card session at work: polls and the entry check (R106 to R108), reads (R107, R113), write sequences and
their ends (R115 to R120), resolutions (R126 to R129), enquiry (R27, R110) and the LANE_RESTORE check (R5). -/

namespace Sys2Proof.Machine

/-- The reply to the request in service is ready (R201). -/
def State.reply (s : State) (status : Status) (body : List Byte) : State :=
  match s.lki.hold with
  | h :: _ => { s with lki := { s.lki with ready := some ⟨h.code, h.lane, h.tag, status, body⟩ } }
  | [] => s

/-! ## Enquiry (R27, R110) -/

/-- The report of a card read for ENQUIRY (R110). -/
def cardReport (serial : Serial) (bs : List Block) (today : Nat) (pendingAt : Option Lane) : CardReport :=
  let v := purseView bs
  ⟨serial, v.balance, v.new, v.counter, copyTag (blockAt bs 1), copyTag (blockAt bs 2),
   [0, 1, 2, 3].map fun i => ⟨slotState bs i, slotExpired bs today i, slotParse (blockAt bs (3 + i))⟩, pendingAt⟩

/-- The CARD notice, and the lane back in IDLE with its purpose ended (R27). -/
def State.enquiryDone (s : State) (l : Lane) (r : Option CardReport) : State :=
  (((s.notify (.card l r)).stopTimer l).enter l .idle).endPurpose l

/-! ## Reading a card (R107, R113) -/

/-- Start a read at block `from_`; a re-read for DELIVERY keeps block 0 of the priced image. -/
def State.startRead (s : State) (l : Lane) (serial : Serial) (have_ : List Block) (pendingAt : Option Lane) : State :=
  (s.setSession l { s.session l with
    phase := .reading, serial := some serial, current := have_, pendingAt := pendingAt }).cardPlace l .read
    (.blockRead have_.length)

/-- Block 0 of the priced image, which a DELIVERY read takes as read. -/
def Session.firstBlock (c : Session) : List Block := ((c.priced.map CardImage.blocks).getD []).take 1 ++
  (if c.priced.isSome then [] else [emptyBlock])

/-- The DETACHED entry of a polled card is taken up for resolution, or deferred (R128 steps 1 to 3). -/
def State.takeUp (s : State) (l : Lane) (serial : Serial) (n : Nat) : State :=
  if s.admits then
    let s1 := (s.setSession l { s.session l with res := some ⟨n, true, true, false, none⟩ }).setClaim l (some serial)
    let s2 := if (s.session l).purpose = .saleRead then s1 else s1.enter l .recovering
    s2.startRead l serial [] none
  else match s.crt.entry n with
    | some e =>
      if e.deferralReported then s
      else (s.setEntry n (some { e with deferralReported := true })).notify (.recovery (some l) n .deferred)
    | none => s

/-- A CARD_WRITE notice of the lane's sale (R120). -/
def State.cardWrite (s : State) (l : Lane) (seq : Option Nat) (serial : Serial) (r : WriteResult)
    (cause : Option WriteCause) (issued : Nat) (entry : Option Nat) : State :=
  s.notify (.cardWrite l seq serial r cause issued entry)

/-- The card was changed since it was priced: a definite failure before any write (R113, R120). -/
def State.cardChanged (s : State) (l : Lane) (serial : Serial) : State :=
  (((s.setClaim l none).cardWrite l (s.seqAt l) serial .failed (some .cardChanged) 0 none).cardFailed l).sendHalt l

/-- A poll for DELIVERY was answered with a serial (R17, R108, R113, R118). With a DETACHED entry for the sale's card the lane
goes to REFUNDING at once, from CARD_WAIT too, with no DELIVERING between (log entry 45). -/
def State.polledDelivery (s : State) (l : Lane) (serial : Serial) : State :=
  match (s.lane l).sale.bind Sale.serial with
  | none => s
  | some own =>
    if serial ≠ own then (s.notify (.cardMismatch l own serial)).cardAbsent l
    else match s.entryCheck l serial with
      | .none => ((s.cardAnswered l).setClaim l (some serial)).startRead l serial (s.session l).firstBlock none
      | .detached _ => s.cardChanged l serial
      | .attached o =>
        if o = l then match s.crt.find serial with
          | some n => (s.setSession l { s.session l with res := some ⟨n, false, false, false, none⟩ }).startRead l
              serial (s.session l).firstBlock none
          | none => s
        else s.cardAbsent l

/-- A FIELD_POLL was answered OK: the entry check and the purpose decide (R108). -/
def State.polled (s : State) (l : Lane) (serial : Serial) : State :=
  match (s.session l).purpose with
  | .none => s
  | .saleRead => match s.entryCheck l serial with
    | .none => s.startRead l serial [] none
    | .detached n => s.takeUp l serial n
    | .attached _ => s
  | .enquiry => match s.entryCheck l serial with
    | .none => s.startRead l serial [] none
    | .detached n => s.takeUp l serial n
    | .attached o => s.startRead l serial [] (some o)
  | .idleScan => match s.entryCheck l serial with
    | .detached n => s.takeUp l serial n
    | _ => s
  | .delivery => s.polledDelivery l serial

/-- A poll found no card (R106, R113). -/
def State.pollMissed (s : State) (l : Lane) : State :=
  if (s.session l).purpose = .delivery then s.cardAbsent l else s

/-! ## After a resolution (R128 step 7, R129) -/

/-- The image of a card for a sale, with the slot chosen by the day its read completed (R104). -/
def State.imageOf (s : State) (l : Lane) (serial : Serial) (bs : List Block) : CardImage :=
  ⟨bs, chosenSlot bs (s.session l).readDay (s.crt.names serial)⟩

/-- A card read for SALE_READ becomes the priced image and is taken by the lane (R107, R10). -/
def State.saleRead (s : State) (l : Lane) (serial : Serial) (bs : List Block) : State :=
  let img := s.imageOf l serial bs
  (s.setSession l { s.session l with priced := some img }).saleCard l img

/-- The session's resolution is over: what the lane's reason for reading makes of the card. No image means that the card
counts as not having answered. -/
def State.afterResolution (s : State) (l : Lane) (r : Resolution) (serial : Serial) (bs : Option (List Block)) :
    State :=
  if r.aside then
    let c := s.session l
    let t := s.setSession l { c with
      purpose := .none, phase := .idle, next := .none, serial := none, current := [], write := none }
    if c.next = .none then t else t.setPurpose l c.next
  else match (s.session l).purpose with
    | .saleRead => match bs with
      | some b => s.saleRead l serial b
      | none => s
    | .enquiry => match bs with
      | some b => s.enquiryDone l (some (cardReport serial b (s.session l).readDay none))
      | none =>
        if (s.lane l).timer.isSome then s.enter l .enquiry else s.enquiryDone l none
    | .idleScan => (s.enter l .idle).refreshScan l
    | _ => s

/-- End a DETACHED resolution with a verdict that has a record (R128 steps 6 and 7). Its RECOVERY notice names the lane that
read the card (log entry 65), and HALT comes after what the lane's reason makes of the card (log entry 61). -/
def State.finishDetached (s : State) (l : Lane) (r : Resolution) (e : CrtEntry) (v : Verdict)
    (cause : Option ConflictCause) (counter : Option Nat) (bs : List Block) : State :=
  let rec_ := s.recoveryRecord r.entry e (some l) counter v cause
  let s1 := (s.setEntry r.entry none).setSession l { s.session l with res := none }
  let s2 := ((s1.store (.recovery rec_)).notify (.recovery (some l) r.entry v)).setClaim l none
  (s2.afterResolution l r e.serial (some bs)).sendHalt l

/-- End a DETACHED resolution without an answer: hold, claim and images are given up, and the entry stands (R128). -/
def State.dropDetached (s : State) (l : Lane) (r : Resolution) (serial : Serial) : State :=
  let s1 := (s.setSession l { s.session l with res := none, write := none }).setClaim l none
  (s1.backToPolling l).afterResolution l r serial none

/-! ## Verdicts (R126) -/

/-- What a read of the card says of an entry (R126). -/
inductive Finding where
  | landed
  | notLanded
  | conflict (c : ConflictCause)
  deriving DecidableEq, Repr

/-- The verdict table of R126. -/
def CrtEntry.judge (e : CrtEntry) (bs : List Block) (bmax : Nat) : Finding :=
  match (purseView bs).counter with
  | none => .conflict .unknownBalance
  | some c =>
    if c = e.expected then .landed
    else if c + 1 = e.expected then (if bmax < e.balance then .conflict .overLimit else .notLanded)
    else .conflict .counter

/-- The entry's images are written again (R118). -/
def State.reapply (s : State) (l : Lane) (r : Resolution) (e : CrtEntry) (bs : List Block) : State :=
  match e.sequence bs with
  | some w =>
    (s.setSession l { s.session l with res := some { r with counter := (purseView bs).counter } }).writeNext l w
  | none => s

/-- The purse copies have been read for an ATTACHED entry (R19, R127): the RECOVERY notice comes before what its lane does with
the verdict (log entry 56). -/
def State.judgeAttached (s : State) (l : Lane) (r : Resolution) (e : CrtEntry) (bs : List Block) : State :=
  match e.judge bs s.fcu.bmax with
  | .notLanded => s.reapply l r e bs
  | .landed =>
    let s1 := (s.setEntry r.entry none).setSession l { s.session l with res := none }
    (((s1.credit e).notify (.recovery (some l) r.entry .landed)).cardVerified l).sendHalt l
  | .conflict _ =>
    let s1 := (s.setEntry r.entry none).setSession l { s.session l with res := none }
    ((s1.notify (.recovery (some l) r.entry .conflict)).cardConflict l).sendHalt l

/-- The card has been read for a DETACHED entry (R128 step 5). -/
def State.judgeDetached (s : State) (l : Lane) (r : Resolution) (e : CrtEntry) (bs : List Block) : State :=
  let c := (purseView bs).counter
  match e.judge bs s.fcu.bmax with
  | .notLanded => s.reapply l r e bs
  | .landed => (s.credit e).finishDetached l r e .landed none c bs
  | .conflict why => s.finishDetached l r e .conflict (some why) c bs

/-! ## The write sequence (R114 to R120) -/

/-- The kind of a sale's entry (R115). -/
def Sale.entryKind (x : Sale) : CrtKind :=
  if x.kind = .topup then .topup else if x.payment = .coins then .passCoins else .passValue

/-- The pass slot image of a sale (R114). -/
def Sale.slotImage (x : Sale) (counter : Nat) : Option (Nat × SlotImage) :=
  match x.slot, x.validity with
  | some i, some (a, b) => some (i, ⟨x.product, x.zonesPriced, a, b, counter⟩)
  | _, _ => none

/-- The entry of a sale whose card is present (R123). -/
def State.entryOf (s : State) (l : Lane) (x : Sale) (serial : Serial) (counter : Nat) : CrtEntry :=
  ⟨serial, l, x.entryKind, counter, x.purse, s.clk.day, if x.kind = .topup then x.price.getD 0 + x.bonus else 0,
   x.slotImage counter, x.seq, s.now, true, false, false⟩

/-- The number that a creation gives (R121): only from the lane's reservation, and with no entry for the serial (R123, R124,
Law 3). -/
def State.creation (s : State) (l : Lane) (serial : Serial) : Option Nat :=
  if s.crt.reserved.get l ∧ s.crt.find serial = none then s.crt.freeNo else none

/-- The re-read found the card unchanged: the entry is created and the first write requested (R114, R115, R123). -/
def State.startWrite (s : State) (l : Lane) (x : Sale) (serial : Serial) (bs : List Block) : State :=
  match s.creation l serial, (purseView bs).counter, (purseView bs).target with
  | some n, some c, some t =>
    let e := s.entryOf l x serial (c + 1)
    let s1 := ((s.setEntry n (some e)).setCrtRes l false).setClaim l none
    let s2 := s1.modSale l fun y => { y with entryNo := some n, entryAttached := true, recoveryRes := false }
    s2.writeNext l (WriteSeq.make (e.slot.map fun y => (y.1, slotBlock y.2)) (purseBlock x.purse (c + 1) l s.clk.day) t
      (clearing bs x.slot))
  | _, _, _ => ((s.setClaim l none).backToPolling l).cardAbsent l

/-- The re-read for DELIVERY is complete (R113). -/
def State.compareRead (s : State) (l : Lane) (serial : Serial) (bs : List Block) : State :=
  match (s.lane l).sale, (s.session l).priced with
  | some x, some img =>
    if bs.drop 1 = img.blocks.drop 1 then s.startWrite l x serial bs else s.cardChanged l serial
  | _, _ => s

/-- A resolution has been set aside: the LC's reason for reading the card has gone away (R129). -/
def Session.aside (c : Session) : Bool :=
  match c.res with
  | some r => r.aside
  | none => false

/-- A read is complete: the day is taken (R104), and the serial of a card read for a sale enters the sale context (R9). -/
def State.readComplete (s : State) (l : Lane) (serial : Serial) : State :=
  let c := s.session l
  let t := s.setSession l { c with readDay := s.clk.day }
  if c.purpose = .saleRead ∧ !c.aside then t.modSale l fun y => { y with serial := some serial } else t

/-- What follows a complete read (R107, R113, R127, R128). -/
def State.readUse (s : State) (l : Lane) (serial : Serial) (bs : List Block) : State :=
  let c := s.session l
  match c.res with
  | some r => match s.crt.entry r.entry with
    | some e => if r.detached then s.judgeDetached l r e bs else s.judgeAttached l r e bs
    | none => s
  | none => match c.purpose with
    | .saleRead => (s.saleRead l serial bs).sendHalt l
    | .enquiry => (s.enquiryDone l (some (cardReport serial bs c.readDay c.pendingAt))).sendHalt l
    | .delivery => s.compareRead l serial bs
    | _ => s

/-- All blocks have been read (R107). -/
def State.readDone (s : State) (l : Lane) (serial : Serial) (bs : List Block) : State :=
  (s.readComplete l serial).readUse l serial bs

/-- A read is discarded, or the card is not present for DELIVERY (R107, R113, R127, R128). -/
def State.readFailed (s : State) (l : Lane) (serial : Serial) : State :=
  let c := s.session l
  match c.res with
  | some r =>
    if r.detached then s.dropDetached l r serial
    else (s.setSession l { c with res := none }).backToPolling l
  | none =>
    if c.purpose = .delivery then ((s.setClaim l none).backToPolling l).cardAbsent l else s.backToPolling l

/-- A block has been read (R107): block 0 must carry the serial polled, and the next block is asked for. -/
def State.blockRead (s : State) (l : Lane) (b : Block) : State :=
  let c := s.session l
  match c.serial with
  | none => s
  | some serial =>
    if c.current = [] ∧ blockSerial b ≠ some serial then s.readFailed l serial
    else
      let bs := c.current ++ [b]
      let s1 := s.setSession l { c with current := bs }
      if bs.length < 7 then s1.cardPlace l .read (.blockRead bs.length) else s1.readDone l serial bs

/-- The serial of the card a session is dealing with. -/
def Session.inHand (c : Session) : Serial := c.serial.getD []

/-- The sequence ended verified (R117, R126): CARD_WRITE, RECOVERY and then what the lane does (log entry 56). -/
def State.sequenceVerified (s : State) (l : Lane) (w : WriteSeq) : State :=
  let c := s.session l
  match c.res with
  | none =>
    match (s.lane l).sale.bind Sale.entryNo with
    | some n => match s.crt.entry n with
      | some e =>
        ((((s.cardWrite l (s.seqAt l) c.inHand .verified none w.issued none).setEntry n none).credit e).cardVerified
          l).sendHalt l
      | none => s
    | none => s
  | some r => match s.crt.entry r.entry with
    | none => s
    | some e =>
      let s1 := (s.cardWrite l (if r.detached then none else s.seqAt l) c.inHand .verified none w.issued none).credit e
      if r.detached then s1.finishDetached l r e .applied none r.counter (applyWrites c.current w)
      else
        let s2 := (s1.setEntry r.entry none).setSession l { s1.session l with res := none }
        ((s2.notify (.recovery (some l) r.entry .applied)).cardVerified l).sendHalt l

/-- The sequence ended in doubt (R116, R118): CARD_WRITE, RECOVERY and then what the lane does (log entry 56). A re-application in
doubt again re-enters CARD_WAIT without a SALE notice (log entry 63). -/
def State.sequenceDoubt (s : State) (l : Lane) (w : WriteSeq) (cause : WriteCause) : State :=
  let c := s.session l
  match c.res with
  | none =>
    ((s.cardWrite l (s.seqAt l) c.inHand .inDoubt (some cause) w.issued
      ((s.lane l).sale.bind Sale.entryNo)).backToPolling l).waitCard l .inDoubt
  | some r =>
    let seq := if r.detached then none else s.seqAt l
    let s1 := (s.cardWrite l seq c.inHand .inDoubt (some cause) w.issued (some r.entry)).notify
      (.recovery (some l) r.entry .inDoubt)
    if r.detached then
      let s2 := match s1.crt.entry r.entry with
        | some e => s1.setEntry r.entry (some { e with deferralReported := false })
        | none => s1
      s2.dropDetached l r c.inHand
    else ((s1.setSession l { s1.session l with res := none }).backToPolling l).waitCard l .inDoubt

/-- The cause of an exchange of the sequence that ended badly (R120). -/
def ExOutcome.cause : ExOutcome → WriteCause
  | .success .noCard => .noCard
  | .success .cardError => .cardError
  | _ => .busFailure

/-- A BLOCK_WRITE of the sequence ended (R116). -/
def State.writeEnded (s : State) (l : Lane) (w : WriteSeq) (o : ExOutcome) : State :=
  match o with
  | .success .done => s.writeNext l { w with todo := w.todo.tail }
  | _ => s.sequenceDoubt l w o.cause

/-- The read-back ended (R116). -/
def State.readBackEnded (s : State) (l : Lane) (w : WriteSeq) (o : ExOutcome) : State :=
  match o with
  | .success (.block b) => if b = w.purse then s.sequenceVerified l w else s.sequenceDoubt l w .readbackMismatch
  | _ => s.sequenceDoubt l w o.cause

/-! ## The LANE_RESTORE check (R5) -/

/-- The paths still faulted as a set: coin path bit 0, card path bit 1 (section 12.1). -/
def pathSet (coin card : Bool) : List Byte := be 1 ((if coin then 1 else 0) + (if card then 2 else 0))

/-- The reply of a LANE_RESTORE whose checks have ended. -/
def State.restoreReply (s : State) (stillCoin stillCard : Bool) : State :=
  if stillCoin ∨ stillCard then s.reply .stillFaulty (pathSet stillCoin stillCard) else s.reply .ok []

/-- The FIELD_POLL of the check has ended: a success restores the card path. The coin path is reported as its check found it
when the request was taken (log entry 32). -/
def State.restoreEnded (s : State) (o : ExOutcome) : State :=
  match s.restore with
  | none => s
  | some r =>
    let s1 := { s with restore := none }
    if o.failed then s1.restoreReply r.stillCoin true
    else
      ((s1.setLane r.lane { s1.lane r.lane with cardFault := false }).clear (.cardPath r.lane)).restoreReply
        r.stillCoin false

/-! ## A result from the bus (R159 step 3) -/

/-- Place the exchange held behind a LANE_RESTORE check. -/
def State.placeBehind (s : State) (l : Lane) : State :=
  match (s.session l).behind with
  | some (u, r) => (s.setSession l { s.session l with behind := none }).cardPlace l u r
  | none => s

/-- The result of a HALT (R105): polling goes on while the purpose calls for it. A DELIVERY whose sale has its delivery ends
here (log entry 21). -/
def State.halted (s : State) (l : Lane) : State :=
  let c := s.session l
  if c.purpose = .delivery ∧ s.deliveryOver l then s.endPurpose l
  else s.setSession l { c with phase := if c.purpose = .none then .idle else .polling }

/-- The result of an exchange that is not to be discarded. -/
def State.cardUse (s : State) (l : Lane) (u : CardUse) (o : ExOutcome) : State :=
  let c := s.session l
  match u with
  | .poll => match o with
    | .success (.serial x) => s.polled l x
    | _ => s.pollMissed l
  | .read => match o with
    | .success (.block b) => s.blockRead l b
    | _ => s.readFailed l c.inHand
  | .write => match c.write with
    | some w => s.writeEnded l w o
    | none => s
  | .readBack => match c.write with
    | some w => s.readBackEnded l w o
    | none => s
  | .halt => s.halted l
  | .restore => s

/-- The CDU takes the result of its lane's exchange; a LANE_RESTORE check that waited is placed first (R154). -/
def State.cardResult (s : State) (l : Lane) (o : ExOutcome) : State :=
  let c := s.session l
  match c.use with
  | none => s
  | some .restore =>
    ((s.setSession l { c with use := none }).placeBehind l).restoreEnded o
  | some u =>
    let s1 := (s.setSession l { c with use := none, discard := false }).restoreNext l
    if c.discard then s1 else s1.cardUse l u o

/-! ## Polling (R106) -/

/-- A lane's poll period ends: a FIELD_POLL is requested if the purpose calls for it and nothing is outstanding. -/
def State.pollDue (s : State) (l : Lane) : State :=
  let c := s.session l
  if c.phase = .polling ∧ c.purpose ≠ .none ∧ c.use = none ∧ (!(s.lane l).cardFault ∨ c.purpose = .delivery) then
    s.cardPlace l .poll .fieldPoll
  else s

end Sys2Proof.Machine
end

