-- ==== Sys2Proof/Machine/Results.lean ====
section
/-! DEFINITION. What the PRU makes of a bus result (R138 to R142), the ticket hold (R142), the end of an exchange as the DBC
acts on it (R159, R160), and the end of a payout wait (R90, R91, R98, R99). -/

namespace Sys2Proof.Machine

/-! ## The printer's results -/

/-- The states a response carries become the latest ones, and PAPER_LOW is re-evaluated (R138, R144), before the job that the
response ends (log entry 58). -/
def State.latest (s : State) (p : Paper) (c : Cover) : State :=
  { s with pru := { s.pru with paper := some p, cover := some c } }.evalPaperLow

/-- The LC takes its ticket's outcome (R16, R147). -/
def State.ticketOutcome (s : State) (j : Job) (printed : Bool) : State :=
  match j.kind, j.lane with
  | .ticket, some l => if printed then s.ticketPrinted l else s.ticketFailed l
  | _, _ => s

/-- A job that was PRINTING was not printed (R138, R139): a note goes back to the queue (R148), any other job ends. -/
def State.jobFailed (s : State) (j : Job) : State :=
  if j.kind = .note then s.requeueNote j else s.endJob j .failed

/-- The outcome of a job whose lines are all printed (R140). -/
def Job.done (j : Job) : JobOutcome := if j.cancel then .printedDespiteCancel else .printed

/-- A job has been printed and leaves its slot; a note has its record stored (R140, R148). -/
def State.jobPrinted (s : State) (j : Job) : State :=
  let t := s.endJob j j.done
  if j.kind = .note then t.notePrinted j else t

/-- The printer reached the fault (R139, R160). -/
def State.printerFault (s : State) : State :=
  let s1 := s.setPrinter .offline
  match s.pru.current with
  | some j =>
    if j.lines.length ≤ j.printed then (s1.jobPrinted j).ticketOutcome j true
    else (s1.jobFailed j).ticketOutcome j false
  | none => s1

/-- A LINE response (R138): PAPER_LOW first, then the end of the job (log entry 58), then the printer state (log entry 23). -/
def State.lineAnswered (s : State) (j : Job) (p : Paper) (c : Cover) : State :=
  if p ≠ .out ∧ c = .closed then
    let s1 := { s with pru :=
      { s.pru.modify j.id fun x => { x with printed := x.printed + 1 } with
        linesRemaining := s.pru.linesRemaining - 1 } }
    (s1.latest p c).printNext
  else
    (((s.latest p c).jobFailed j).setPrinter (printerOf p c)).ticketOutcome j false

/-- A FEED_CUT response: the job ends PRINTED whatever it shows, and the next one is chosen (R137, R138, R140). PAPER_LOW comes
before the end of the job (log entry 58). -/
def State.cutAnswered (s : State) (j : Job) (p : Paper) (c : Cover) : State :=
  ((((s.latest p c).jobPrinted j).setPrinter (printerOf p c)).printStart).ticketOutcome j true

/-- A PRINTER_STATUS response (R141): outside a job it decides the printer state, from OFFLINE too, where a closed cover with
no paper gives PAPER_OUT (log entry 66). -/
def State.statusAnswered (s : State) (p : Paper) (c : Cover) : State :=
  let s1 := s.latest p c
  if s.pru.current = none then (s1.setPrinter (printerOf p c)).printStart else s1

/-- The PRU takes the result of its exchange, with whether this failure reached the fault (R139, R159). In QUIESCED it is
discarded (R166). -/
def State.printResult (s : State) (o : ExOutcome) (reached : Bool) : State :=
  let s0 := { s with pru := { s.pru with use := none } }
  if s.part = .quiesced then s0
  else
    let s1 := match s.pru.use, o with
      | some .status, .success (.paper p c) => s0.statusAnswered p c
      | some .line, .success (.paper p c) => match s0.pru.current with
        | some j => s0.lineAnswered j p c
        | none => s0
      | some .feedCut, .success (.paper p c) => match s0.pru.current with
        | some j => s0.cutAnswered j p c
        | none => s0
      | _, _ => if reached then s0.printerFault else s0
    s1.printNext

/-- The ticket hold timer runs out (R142): every QUEUED TICKET job ends FAILED, in the order of their creation, each with what
its lane does before the next (log entry 49). -/
def State.holdExpired (s : State) : State :=
  if s.pru.hold = .running then
    let s1 := { s with pru := { s.pru with hold := .expired } }
    (s.pru.jobs.filter fun j => j.kind = .ticket && !j.printing).foldl
      (fun t j => (t.endJob j .failed).ticketOutcome j false) s1
  else s

/-- The PRU's period ends (R141): a PRINTER_STATUS is requested while stopped, or READY with nothing queued. -/
def State.statusDue (s : State) : State :=
  let p := s.pru
  if s.part ≠ .quiesced ∧ p.use = none ∧ (p.printer.stopped ∨ (p.printer = .ready ∧ !p.anyQueued)) then s.wantStatus
  else s

/-! ## The end of an exchange (R159) -/

/-- The result goes to the requester of a device (R159 step 3). -/
def State.hand (s : State) (d : Dev) (o : ExOutcome) (reached : Bool) : State :=
  match d with
  | .frontA => s.cardResult .a o
  | .frontB => s.cardResult .b o
  | .printer => s.printResult o reached

/-- The fault report of a front-end goes to its lane (R159 step 4). -/
def State.reportFault (s : State) (d : Dev) (reached : Bool) : State :=
  if reached then
    match d with
    | .frontA => s.takeCardFault .a
    | .frontB => s.takeCardFault .b
    | .printer => s
  else s

/-- An exchange ends: the five steps of R159. -/
def State.busEnd (s : State) (e : Exchange) (o : ExOutcome) : State :=
  let reached := o.reaches (s.dbc.counts.get e.dev)
  (((s.endExchange e.dev o).hand e.dev o reached).reportFault e.dev reached).grantNext

/-- The deadline passes in WAITING_READY (R157). -/
def State.busDeadline (s : State) : State :=
  match s.dbc.current with
  | some e => if e.phase = .waitingReady then s.busEnd e .timeout else s
  | none => s

/-- The response frame has been clocked in (R158). -/
def State.busResponse (s : State) (bytes : List Byte) : State :=
  match s.dbc.current with
  | some e =>
    if e.phase = .receiving then
      match e.req.judge bytes with
      | some r => s.busEnd e (.success r)
      | none => s.busEnd e .frameError
    else s
  | none => s

/-! ## The payout sensor (R90, R91) -/

/-- The payout sensor confirms a coin: for the dispensing order or the dump; with no wait running it is discarded. -/
def State.confirm (s : State) : State :=
  match s.chu.wait with
  | none => s
  | some w => match s.chu.dump with
    | some d => s.dumpCoin d
    | none => match s.chu.orders with
      | o :: rest => (s.countCoin o rest w.tube).completeOrders
      | [] => { s with chu := { s.chu with wait := none } }

/-- A payout wait ends with no confirmation (R91, R99): a second one writes the tube off, and a dump whose cashbox has been
removed ends with its first. -/
def State.waitEnds (s : State) : State :=
  match s.chu.wait with
  | none => s
  | some w => match s.chu.dump with
    | some d =>
      if w.second then s.dumpMissed d else if d.stopped then s.endDump d else retry w
    | none =>
      if w.second then
        match s.chu.orders with
        | o :: rest => (s.writeOff o rest w.tube).completeOrders
        | [] => { s with chu := { s.chu with wait := none } }
      else retry w
where
  /-- Pulse the same tube once more and wait again. -/
  retry (w : PayWait) : State :=
    { s with chu := { s.chu with wait := some { w with second := true } } }.drive (.eject w.tube)

end Sys2Proof.Machine
end

