-- ==== Sys2Proof/Machine/Part.lean ====
section
/-! DEFINITION. The part as a whole: retained sections at power-on (R191, R192), start-up (R193, R194), validation (R188,
R59, R80, R145), the part states (R185 to R188, R196, R197), RESET (R195) and the depot clock (R189). -/

namespace Sys2Proof.Machine

/-! ## Validation (R188) -/

/-- The CIU's part for one entry (R59). -/
def State.acceptValid (s : State) (e : AcceptFields) : Bool :=
  e.kind = 3 || (e.denom % s.fcu.unit = 0 &&
    match acceptTarget e with
    | some (.tube n) => (s.tube n).denom ≠ 0 && (s.tube n).denom = e.denom
    | _ => true)

/-- The CHU's part for one tube (R80). -/
def Tube.valid (t : Tube) (unit : Nat) : Bool :=
  if t.denom = 0 then t.count = 0
  else t.denom % unit = 0 && t.count ≤ t.capacity && t.l1 < t.l2 && t.l2 ≤ t.capacity

/-- The first failing table and index of the whole validation (R188). -/
def State.validate (s : State) : Option (Table × Nat) :=
  match s.fcu.validate with
  | some x => some x
  | none => match s.ciu.accept.findIdx? (fun e => !s.acceptValid e) with
    | some i => some (.acceptance, i)
    | none => match TubeNo.all.find? (fun n => !(s.tube n).valid s.fcu.unit) with
      | some n => some (.tube, n.code)
      | none =>
        if s.pru.lowDeclare < s.pru.lowClear ∧ s.pru.lowClear ≤ s.pru.rollLines then none else some (.paper, 0)

/-! ## Retained sections (R192) -/

/-- Tubes and parameters after a bad PARAMETERS section. -/
def State.clearParameters (s : State) : State :=
  let t := fun n => Tube.unused (s.tube n).count
  { s with
    chu := { s.chu with tubes := ⟨t .t1, t .t2, t .t3, t .t4, t .t5, t .t6⟩, coinLimit := 15 }
    timers := .default
    lki := { s.lki with modes := modesDefault }
    jnu := { s.jnu with watermark := 48, waitTime := 300, autoTime := none }
    pru := { s.pru with rollLines := 4000, lowDeclare := 200, lowClear := 400 }
    tablesCleared := true }

/-- Everything financial after a bad FINANCIAL section (R192); the last automatic day is none (log entry 67). -/
def State.clearFinancial (s : State) : State :=
  let t := fun n => { s.tube n with count := 0 }
  { s with
    chu := { s.chu with tubes := ⟨t .t1, t .t2, t .t3, t .t4, t .t5, t .t6⟩ }
    ciu := { s.ciu with boxCoins := [], boxValue := 0 }
    pru := { s.pru with linesRemaining := 0, notes := [] }
    jnu := { s.jnu with
      journal := [], recSeq := 1, incomplete := false, lost := 0, totals := .zero none, snapshot := none,
      lastAutoDay := none }
    saleSeq := 0
    crt := { s.crt with entries := List.replicate 16 none }
    lanes := ⟨{ s.lanes.a with snapshot := none }, { s.lanes.b with snapshot := none }⟩
    financialLost := true }

/-- Step 1 of start-up: each bad section is set to its defaults (R192). -/
def State.checkSections (s : State) (b : BadSections) : State :=
  let s1 := if b.tariff then { s with fcu := .default, tablesCleared := true } else s
  let s2 := if b.acceptance then
      { s1 with ciu := { s1.ciu with accept := List.replicate 32 acceptDisabled }, tablesCleared := true }
    else s1
  let s3 := if b.parameters then s2.clearParameters else s2
  if b.financial then s3.clearFinancial else s3

/-! ## Start-up, step 3 (R193) -/

/-- A lane that starts from its retained snapshot (R2, R26). -/
def LaneCtx.restart (c : LaneCtx) : LaneCtx :=
  match c.snapshot with
  | some x => { LaneCtx.start with
      state := x.state
      sale := some { x.sale with ticketSlot := false, recoveryRes := false }
      snapshot := c.snapshot }
  | none => .start

/-- The tray a lane's snapshot holds. -/
def LaneCtx.snapTray (c : LaneCtx) : List TrayEntry := (c.snapshot.map Snapshot.tray).getD []

/-- How many entries of a tray are bound for a tube. -/
def bound (tray : List TrayEntry) (n : TubeNo) : Nat := (tray.filter fun e => e.target = .tube n).length

/-- An entry at start-up: its deferral-reported flag is clear, an expiry that waits goes on waiting over a RESET (R130; log
entry 44), and an entry that no snapshot holds ATTACHED is DETACHED (R121, R125). -/
def restartEntry (cause : StartCause) (keep : List Nat) (n : Nat) (e : CrtEntry) : CrtEntry :=
  { e.unreported with
    expiryPending := e.expiryPending && decide (cause = .reset)
    attached := e.attached && n ∈ keep }

/-- The device bus at start-up (R166, R193): abandoned and emptied. A READY line held low over a RESET stays low; at power-on
it stands high (log entry 22). -/
def Dbc.restart (b : Dbc) : StartCause → Dbc
  | .powerOn => .start
  | .reset => { Dbc.start with readyHigh := !b.heldLow, heldLow := b.heldLow }

/-- The entry number that a lane's snapshot holds ATTACHED. -/
def LaneCtx.attachedNo (c : LaneCtx) : List Nat :=
  match c.snapshot with
  | some x => if x.sale.entryAttached then x.sale.entryNo.toList else []
  | none => []

/-- The state of every block before it declares conditions and stores records (R193 step 3). -/
def State.restart (s : State) (cause : StartCause) (bad : BadSections) (boxClosed : Bool) : State :=
  let la := s.lanes.a.restart
  let lb := s.lanes.b.restart
  let ta := s.lanes.a.snapTray
  let tb := s.lanes.b.snapTray
  let tube := fun n => { s.tube n with pendingIn := bound ta n + bound tb n, low := false }
  let keep := s.lanes.a.attachedNo ++ s.lanes.b.attachedNo
  { s with
    part := .starting
    warnHeld := false
    warned := false
    resetPending := false
    start := ⟨cause, bad, (if la.sale.isSome then 1 else 0) + (if lb.sale.isSome then 1 else 0)⟩
    lanes := ⟨la, lb⟩
    restore := none
    ciu := { s.ciu with
      lanes := ⟨{ CoinLane.start with tray := ta }, { CoinLane.start with tray := tb }⟩
      boxPresent := boxClosed }
    chu :=
      { tubes := ⟨tube .t1, tube .t2, tube .t3, tube .t4, tube .t5, tube .t6⟩
        coinLimit := s.chu.coinLimit
        res := ⟨[], []⟩
        orders := []
        wait := none
        dump := none
        diverterBox := false }
    cdu := ⟨.start, .start⟩
    crt :=
      { entries := s.crt.entries.mapIdx fun n e => e.map (restartEntry cause keep n)
        reserved := ⟨false, false⟩
        claims := ⟨none, none⟩ }
    pru := { s.pru with
      jobs := [], reserved := ⟨false, false⟩, nextId := 1, nextAge := 0, printer := .offline, paper := none,
      cover := none, hold := .running, paperLow := false, use := none, statusWanted := false }
    dbc := s.dbc.restart cause
    jnu := { s.jnu with
      inForce := s.jnu.watermark
      armed := s.stored < s.jnu.watermark
      highOwed := !decide (s.stored < s.jnu.watermark)
      waitTimer := .stopped
      retry := none }
    lki := { s.lki with
      receiver := none, hold := [], dropCount := 0, tx := none, ready := none, notices := [], noticesLost := false,
      lostCount := 0, conds := [], raised := [] } }

/-- PAPER_LOW at start-up, from lines_remaining alone (R144). -/
def State.startPaperLow (s : State) : State :=
  if s.pru.linesRemaining ≤ s.pru.lowDeclare then s.setPaperLow true else s

/-- The cashbox switch is read (R75): an absent box is declared, and its contents recorded as FOUND_REMOVED. -/
def State.startBox (s : State) : State :=
  if s.ciu.boxPresent then s
  else
    let t := s.declare .cashboxOut
    if s.ciu.boxCoins = [] then t else t.emptyBox true

/-- The pending notes are recorded UNPRINTED (R148), in the order of their creation (log entry 50). -/
def State.startNotes (s : State) : State := s.pru.notes.foldl (fun t n => t.settleNote n false none) s

/-- What the blocks declare and store at step 3 of start-up: the low tubes, PAPER_LOW, PRINTER_OFFLINE (log entry 60), then
the notes before the cashbox (log entry 50). -/
def State.startBlocks (s : State) : State :=
  (((s.startLows.startPaperLow.declare .printerOffline).startNotes).startBox).wantStatus

/-! ## Start-up, step 4 (R194) -/

/-- The lane states in which a sale's card may have been written or its ticket printed (R16 to R21). -/
def LaneState.delivers : LaneState → Bool
  | .delivering => true
  | .cardWait => true
  | .payout => true
  | _ => false

/-- The sale of a lane's snapshot is closed, as far as this moment allows (R194). -/
def State.closeSnapshot (s : State) (l : Lane) : State :=
  match (s.lane l).sale with
  | none => s
  | some x =>
    if (x.entryAttached ∨ x.bound ∨ x.verified) ∧ (s.lane l).state.delivers then
      let s1 := match x.entryAttached, x.entryNo with
        | true, some n => s.detach n
        | _, _ => s
      let s2 := s1.modSale l fun y => { y with bound := y.bound || y.entryAttached, entryAttached := false }
      let s3 := if (s.lane l).state = .payout then s2 else s2.enter l .delivering
      s3.release l
    else if (s.lane l).state = .awaitCard ∨ ((s.lane l).state = .paying ∧ x.coinsReceived = 0) then
      s.closeSale l .interrupted none
    else
      let s1 := s.modSale l fun y => { y with refundOutcome := some .interrupted }
      (s1.enter l .refunding).askReturn l

/-- Steps 3 and 4 of start-up for a state whose sections are checked and whose clock is as step 2 leaves it. -/
def State.startUp (s : State) (cause : StartCause) (bad : BadSections) (boxClosed : Bool) : State :=
  let s1 := s.restart cause bad boxClosed
  let s2 := if bad.financial then (s1.drive (.returnFlap .a)).drive (.returnFlap .b) else s1
  s2.startBlocks.forLanes State.closeSnapshot

/-- No section bad. -/
def BadSections.none : BadSections := ⟨false, false, false, false⟩

/-- Power-on: steps 1 to 4 of start-up (R193). -/
def State.powerOn (s : State) (p : PowerOnInputs) : State :=
  let bad : BadSections := ⟨p.badTariff, p.badAcceptance, p.badParameters, p.badFinancial⟩
  let s1 := s.checkSections bad
  { s1 with clk := ⟨false, 0, 0, false⟩ }.startUp .powerOn bad p.cashboxClosed

/-- A taken RESET takes effect (R195): a select still asserted is released, and start-up runs from step 2. -/
def State.resetNow (s : State) : State :=
  let s1 := match s.dbc.current with
    | some e => s.drive (.deselect e.dev)
    | none => s
  s1.startUp .reset .none s.ciu.boxPresent

/-! ## Part states -/

/-- R197's part for one lane. -/
def State.interrupt (s : State) (l : Lane) : State :=
  match (s.lane l).state, (s.lane l).sale with
  | .awaitCard, some _ => s.closeSale l .interrupted none
  | .paying, some x => if x.coinsReceived = 0 then s.closeSale l .interrupted none else s.refund l .interrupted
  | _, _ => s

/-- The power-warning line takes effect (R197): lane A's sale is closed or refunded before lane B's (log entry 51), then the
jobs end. SERVICE left this way keeps its low states and PAPER_LOW (log entry 40). -/
def State.warn (s : State) : State :=
  ({ s with part := .shuttingDown, warned := true }.forLanes State.interrupt).endQueued [.receipt, .service] .cancelled

/-- The power-warning line is taken (R197): held in STARTING, without effect in QUIESCED. -/
def State.powerWarning (s : State) : State :=
  match s.part with
  | .starting => { s with warnHeld := true }
  | .quiesced => s
  | _ => s.warn

/-- The step-5 record of start-up (R193). -/
def State.powerRecord (s : State) : State :=
  if s.start.cause = .powerOn ∨ 0 < s.start.closed then
    s.storeOther (.power s.start.cause s.start.bad s.start.closed)
  else s

/-- A lane at step 6 of start-up. -/
def State.idleLane (s : State) (l : Lane) : State :=
  s.setLane l { s.lane l with state := .idle, cardFault := false, coinFault := !(s.coin l).linkUp }

/-- What the JNU does as the part leaves STARTING (R174, R175). -/
def State.leaveStarting (s : State) : State :=
  let s1 := { s with jnu := { s.jnu with
    waitTimer := if s.jnu.journal = [] then .held s.jnu.waitTime else .running s.jnu.waitTime, highOwed := false } }
  if s.jnu.highOwed then s1.notify (.journalHigh s.stored s.held s.jnu.inForce) else s1

/-- Coin audit is switched off on both lanes (R71). -/
def State.auditsOff (s : State) : State :=
  s.forLanes fun t l => t.setCoin l { t.coin l with audit := false }

/-- SERVICE is entered (R71, R121, R140, R186). -/
def State.enterService (s : State) : State :=
  { s with part := .service }.auditsOff.clearFlags.endQueued [.receipt] .cancelled

/-- Steps 5 and 6 of start-up, once every snapshot has closed (R193): SERVICE with TABLES_CLEARED or a configuration that
fails, IN_USE otherwise, and SHUTTING_DOWN instead of either under the power-warning line. -/
def State.startupEnd (s : State) (asserted : Bool) : State :=
  if s.part = .starting ∧ !s.anySale then
    let s1 := { s.powerRecord.forLanes State.idleLane with warnHeld := false }
    if s.warnHeld ∨ asserted then { s1 with part := .shuttingDown }.leaveStarting.warn
    else if s1.tablesCleared ∨ s1.validate.isSome then s1.enterService.leaveStarting
    else { s1 with part := .inUse }.leaveStarting
  else s

/-- A watermark takes effect at SERVICE_LEAVE (R174). -/
def State.applyWatermark (s : State) : State :=
  let w := s.jnu.watermark
  let s1 := { s with jnu := { s.jnu with inForce := w, armed := s.stored < w } }
  if w ≤ s.stored ∧ s.jnu.armed then s1.notify (.journalHigh s.stored s.held w) else s1

/-- SERVICE is left for IN_USE (R188): the tubes, PAPER_LOW and the watermark are looked at in this order (log entry 60). -/
def State.leaveService (s : State) : State :=
  { s with part := .inUse, tablesCleared := false }.startLows.evalPaperLow.applyWatermark

/-- A session on entry to QUIESCED (R105, R154): waiting requests are withdrawn, a LANE_RESTORE check apart. -/
def State.quietSession (s : State) (l : Lane) : State :=
  let c := s.session l
  let s1 := if c.use = some .halt ∧ s.cardWaits l then
      (s.setSession l { c with use := none, behind := none }).withdraw (Dev.ofLane l)
    else s.setSession l { c with behind := none }
  s1.endPurpose l

/-- The PRU on entry to QUIESCED (R151, R154): a waiting request is withdrawn. -/
def State.quietPrinter (s : State) : State :=
  let s1 := { s with pru := { s.pru with statusWanted := false } }
  if (s.dbc.waiting.get .printer).isSome then
    { s1 with pru := { s1.pru with use := none } }.withdraw .printer
  else s1

/-- Queued NOTE jobs are dropped and recorded UNPRINTED (R148, R151), in the order of their creation (log entry 50). -/
def State.dropNotes (s : State) : State :=
  (s.pru.jobs.filter fun j => j.kind = .note && !j.printing).foldl (fun t j =>
    let t1 := { t with pru := t.pru.drop j.id }
    match t1.pru.noteOf j.id with
    | some n => t1.settleNote n false (some j.id)
    | none => t1) s

/-- QUIESCED is entered when the conditions of R196 are met, with the blocks in the order in which R196 lists them. -/
def State.quiesce (s : State) : State :=
  if s.part = .shuttingDown ∧ s.shutdownDone then
    let s1 := { s with part := .quiesced, jnu := { s.jnu with retry := none } }.auditsOff.clearFlags
    let s2 := (s1.dropNotes.endQueued [.receipt, .service] .cancelled).forLanes State.quietSession
    s2.quietPrinter.notify .quiesced
  else s

/-! ## The depot clock (R189) -/

/-- The second of day passes 86,399: a new day with its day-change report, or UNSET after the last day (R130, R189). -/
def State.wrapDay (s : State) : State :=
  if s.clk.day < 65535 then { s with clk := ⟨true, s.clk.day + 1, 0, true⟩ }.expiryCheck
  else { s with clk := ⟨false, 0, 0, false⟩ }

/-- One second of the set clock (R189). -/
def State.tick (s : State) : State :=
  if s.clk.set then
    if s.clk.second < 86399 then { s with clk := { s.clk with second := s.clk.second + 1, counted := true } }
    else s.wrapDay
  else s

end Sys2Proof.Machine
end

