-- ==== Sys2Proof/Machine/Tables.lean ====
section
/-! DEFINITION. TABLE_WRITE and TABLE_READ as the tables' owners answer them (R187, R31 to R35, R56, R79, R145, R184,
R204). -/

namespace Sys2Proof.Machine

/-- The status of a write: taken with a new state, or refused. -/
inductive WriteAnswer where
  | taken (s : State)
  | refused (c : Status)

def WriteAnswer.ofTariff (s : State) : Option Tariff → WriteAnswer
  | some t => .taken { s with fcu := t }
  | none => .refused .range

/-- An index of a table with `n` entries, the first numbered `lo`. -/
def inIndex (lo n i : Nat) : Bool := lo ≤ i && i < lo + n

/-! ## Acceptance (R56) -/

/-- Windows lie within 0..1,023 and codes within 0..63. -/
def acceptNumbers (e : AcceptFields) : Bool :=
  e.diamLo ≤ 1023 && e.diamHi ≤ 1023 && e.thickLo ≤ 1023 && e.thickHi ≤ 1023 && e.condLo ≤ 1023 &&
  e.condHi ≤ 1023 && e.code ≤ 63 && e.codeMask ≤ 63

/-- A WINDOW range has no lo above its hi. -/
def acceptOrdered (e : AcceptFields) : Bool :=
  e.kind ≠ 1 || (e.diamLo ≤ e.diamHi && e.thickLo ≤ e.thickHi && e.condLo ≤ e.condHi)

/-- Action, tube and denomination agree. -/
def acceptAgrees (e : AcceptFields) : Bool :=
  (e.action = 1 && 1 ≤ e.tube && e.tube ≤ 6 && 1 ≤ e.denom && e.denom ≤ 50000) ||
  (e.action = 2 && e.tube = 0 && 1 ≤ e.denom && e.denom ≤ 50000) ||
  (e.action = 3 && e.tube = 0 && e.denom = 0)

/-- An entry that a write may store (R56). -/
def acceptWritable (e : AcceptFields) : Bool :=
  e.kind = 3 ||
  ((e.kind = 1 || e.kind = 2) && acceptNumbers e && acceptOrdered e && 1 ≤ e.laneMask && e.laneMask ≤ 3 &&
    acceptAgrees e)

/-! ## Tubes and the other tables -/

/-- TABLE_WRITE of a tube (R79); a tube made unused has no low state (R83), and one made used keeps NOT_LOW until its next
change (log entry 39). -/
def State.writeTube (s : State) (n : TubeNo) (denom capacity l1 l2 : Nat) : WriteAnswer :=
  let t := s.tube n
  if !(denom ≤ 50000 && 1 ≤ capacity && capacity ≤ 150 && l1 ≤ 150 && l2 ≤ 150) then .refused .range
  else if denom ≠ t.denom ∧ 0 < t.count then .refused .tubeNotEmpty
  else
    let s1 := s.setTube n { t with denom := denom, capacity := capacity, l1 := l1, l2 := l2 }
    .taken (if denom = 0 then s1.setLow n false else s1)

/-- The automatic time a write carries: OFF, or a second of day (R184). -/
def autoOf (on time : Nat) : Option (Option Nat) :=
  if on = 0 then some none else if on = 1 ∧ time ≤ 86399 then some (some time) else none

/-- TABLE_WRITE of the journal parameters (R184). -/
def State.writeJournal (s : State) (w wait on auto : Nat) : WriteAnswer :=
  match autoOf on auto with
  | none => .refused .range
  | some a =>
    if 1 ≤ w ∧ w ≤ 64 ∧ 10 ≤ wait ∧ wait ≤ 3600 then
      .taken { s with jnu := { s.jnu with watermark := w, waitTime := wait, autoTime := a } }
    else .refused .range

/-- TABLE_WRITE in SERVICE (R187). -/
def State.writeTable (s : State) (i : Nat) : TableEntry → WriteAnswer
  | .product e => if inIndex 0 48 i then .ofTariff s (s.fcu.writeProduct i e) else .refused .range
  | .concession d k => if inIndex 0 8 i then .ofTariff s (s.fcu.writeConcession i d k) else .refused .range
  | .band u a b f => if inIndex 0 4 i then .ofTariff s (s.fcu.writeBand i u a b f) else .refused .range
  | .tier u t r => if inIndex 0 4 i then .ofTariff s (s.fcu.writeTier i u t r) else .refused .range
  | .global u m b k => if i = 0 then .ofTariff s (s.fcu.writeGlobal u m b k) else .refused .range
  | .acceptance e =>
    if inIndex 0 32 i ∧ acceptWritable e then .taken { s with ciu := { s.ciu with accept := s.ciu.accept.set i e } }
    else .refused .range
  | .tube d c x y => match TubeNo.ofCode i with
    | some n => s.writeTube n d c x y
    | none => .refused .range
  | .coinLimit c =>
    if i = 0 ∧ 1 ≤ c ∧ c ≤ 40 then .taken { s with chu := { s.chu with coinLimit := c } } else .refused .range
  | .paper r x y =>
    if i = 0 ∧ 500 ≤ r ∧ r ≤ 20000 ∧ x ≤ 20000 ∧ 1 ≤ y ∧ y ≤ 20000 then
      .taken { s with pru := { s.pru with rollLines := r, lowDeclare := x, lowClear := y } }
    else .refused .range
  | .journal w x o a => if i = 0 then s.writeJournal w x o a else .refused .range
  | .timers a n w h =>
    if i = 0 ∧ 5 ≤ a ∧ a ≤ 120 ∧ 10 ≤ n ∧ n ≤ 300 ∧ 5 ≤ w ∧ w ≤ 60 ∧ 1 ≤ h ∧ h ≤ 30 then
      .taken { s with timers := ⟨a, n, w, h⟩ }
    else .refused .range
  | .noticeMode m => match NoticeMode.ofCode m with
    | some x =>
      if inIndex 0 16 i then .taken { s with lki := { s.lki with modes := s.lki.modes.set i x } } else .refused .range
    | none => .refused .range

/-- TABLE_WRITE (R187). -/
def State.tableWrite (s : State) (i : Nat) (e : TableEntry) : State :=
  if s.part ≠ .service then s.reply .notInService []
  else match s.writeTable i e with
    | .taken t => t.reply .ok []
    | .refused c => s.reply c []

/-- TABLE_WRITE naming a table outside the catalogue (R187). -/
def State.tableWriteOther (s : State) : State :=
  if s.part ≠ .service then s.reply .notInService [] else s.reply .range []

/-! ## Entries as TABLE_READ carries them -/

def Product.bytes (p : Product) : List Byte :=
  be 1 p.id ++ be 1 p.kind.code ++ be 4 p.base ++ be 4 p.step ++ be 1 p.included ++ be 1 p.zmax ++
  flagByte p.bandApplies ++ be 4 p.ceiling ++ be 2 p.duration ++ be 4 p.minAmount ++ be 4 p.maxAmount

/-- A product entry; an empty one is written as zeros (section 12.1). -/
def productBytes (p : Option Product) : List Byte :=
  match p with
  | some x => x.bytes
  | none => List.replicate 27 0

/-- A set of product kinds as one byte. -/
def Concession.kindsByte (c : Concession) : Nat :=
  (if c.single then 1 else 0) + (if c.returnTicket then 2 else 0) + (if c.pass then 4 else 0) +
  (if c.topup then 8 else 0)

def bandBytes (b : Option Band) : List Byte :=
  match b with
  | some x => be 1 1 ++ be 3 x.start ++ be 3 x.stop ++ be 2 x.factor
  | none => List.replicate 9 0

def tierBytes (t : Option Tier) : List Byte :=
  match t with
  | some x => be 1 1 ++ be 4 x.threshold ++ be 2 x.rate
  | none => List.replicate 7 0

def acceptBytes (e : AcceptFields) : List Byte :=
  be 1 e.kind ++ be 2 e.diamLo ++ be 2 e.diamHi ++ be 2 e.thickLo ++ be 2 e.thickHi ++ be 2 e.condLo ++
  be 2 e.condHi ++ be 1 e.code ++ be 1 e.codeMask ++ be 1 e.laneMask ++ be 4 e.denom ++ be 1 e.action ++ be 1 e.tube

/-- A tube's configuration and its count (R79). -/
def Tube.bytes (t : Tube) : List Byte :=
  be 4 t.denom ++ be 1 t.capacity ++ be 1 t.l1 ++ be 1 t.l2 ++ be 1 t.count

/-- The entry of a table as stored, by table code and index (R187); none outside the catalogue or the range. -/
def State.tableEntry (s : State) (table i : Nat) : Option (List Byte) :=
  match table with
  | 1 => s.fcu.products[i]?.map productBytes
  | 2 => s.fcu.classes[i]?.map fun c => be 2 c.discount ++ be 1 c.kindsByte
  | 3 => s.fcu.bands[i]?.map bandBytes
  | 4 => s.fcu.tiers[i]?.map tierBytes
  | 5 =>
    if i = 0 then some (be 4 s.fcu.unit ++ be 1 s.fcu.mode.code ++ be 4 s.fcu.bmax ++ be 1 s.fcu.mask.byte) else none
  | 6 => s.ciu.accept[i]?.map acceptBytes
  | 7 => (TubeNo.ofCode i).map fun n => (s.tube n).bytes
  | 8 => if i = 0 then some (be 1 s.chu.coinLimit) else none
  | 9 =>
    if i = 0 then
      some (be 2 s.pru.rollLines ++ be 2 s.pru.lowDeclare ++ be 2 s.pru.lowClear ++ be 2 s.pru.linesRemaining)
    else none
  | 10 =>
    if i = 0 then
      some (be 1 s.jnu.watermark ++ be 2 s.jnu.waitTime ++ optBe 3 s.jnu.autoTime ++ be 1 s.stored ++ be 1 s.held ++
        be 4 s.jnu.recSeq ++ optBe 2 s.jnu.lastAutoDay)
    else none
  | 11 =>
    if i = 0 then
      some (be 1 s.timers.awaitCard ++ be 2 s.timers.inactivity ++ be 1 s.timers.window ++ be 1 s.timers.holdDays)
    else none
  | 12 => s.lki.modes[i]?.map fun m => be 1 m.code
  | _ => none

/-- TABLE_READ (R187). -/
def State.tableRead (s : State) (table i : Nat) : State :=
  match s.tableEntry table i with
  | some bs => s.reply .ok bs
  | none => s.reply .range []

end Sys2Proof.Machine
end

