-- ==== Sys2Proof/Machine/Owners.lean ====
section
/-! DEFINITION. The requests as their owners take or refuse them, each with its reply (R5, R6, R7, R15, R27, R65, R71, R96
to R98, R131, R132, R143, R146, R149, R150, R167, R176, R177, R181, R183, R186, R188, R190, R195, R196, R198, R207).
The LKI's own checks (R200) stand in Link.lean. -/

namespace Sys2Proof.Machine

/-! ## Part and clock -/

/-- STATUS's items for one lane (R207). -/
def State.statusLane (s : State) (l : Lane) : List Byte :=
  let c := s.lane l
  be 1 c.state.code ++ be 1 (s.level l).code ++ flagByte c.coinFault ++ flagByte c.cardFault ++
  flagByte (s.coin l).audit ++ be 4 ((s.seqAt l).getD 0)

/-- The body of a STATUS reply (R207). -/
def State.statusBody (s : State) : List Byte :=
  be 1 s.part.code ++ flagByte s.clk.set ++ be 2 s.clk.day ++ be 3 s.clk.second ++
  be 3 (condSetNat s.lki.conds) ++ be 3 (condSetNat s.lki.raised) ++ s.statusLane .a ++ s.statusLane .b ++
  flagByte s.jnu.incomplete ++ flagByte s.lki.noticesLost ++ be 1 s.lki.lostCount ++ flagByte s.financialLost ++
  flagByte s.tablesCleared ++ be 1 s.lki.dropCount

/-- STATUS (R206, R207). -/
def State.takeStatus (s : State) : State :=
  let t := s.reply .ok s.statusBody
  { t with
    financialLost := false
    lki := { t.lki with raised := [], noticesLost := false, lostCount := 0, dropCount := 0 } }

/-- The part code, as characters. -/
def partCode : List Byte := [0x4B, 0x46, 0x32, 0x36, 0x34, 0x30]

/-- IDENTIFY (R198). -/
def State.takeIdentify (s : State) : State :=
  s.reply .ok (textLine partCode ++ [Config.revision] ++ be 1 2 ++ be 1 s.part.code ++ flagByte s.tablesCleared ++
    flagByte s.financialLost)

/-- CLOCK_SET (R190). -/
def State.takeClockSet (s : State) (day second : Nat) : State :=
  if 65535 < day ∨ 86399 < second then s.reply .range []
  else
    let old := s.clk
    let s1 := { s with clk := ⟨true, day, second, false⟩ }
    let s2 := if !old.set ∨ old.day ≠ day then s1.expiryCheck else s1
    s2.reply .ok (be 2 old.day ++ be 3 old.second ++ flagByte old.set)

/-- A dump under way at a RESET: its notice and record for the coins confirmed so far (R99). -/
def State.cutDump (s : State) : State :=
  match s.chu.dump with
  | some d => s.endDump d
  | none => s

/-- RESET (R195): the reset takes effect when the reply has been sent. -/
def State.takeReset (s : State) (force : Nat) : State :=
  if 1 < force then s.reply .range []
  else if force = 0 ∧ s.anySale then s.reply .wrongState []
  else { s.cutDump with resetPending := true }.reply .ok []

/-- SHUTDOWN (R196). SERVICE left this way keeps its low states and PAPER_LOW (log entry 40). -/
def State.takeShutdown (s : State) : State :=
  match s.part with
  | .inUse => { s with part := .shuttingDown }.reply .ok []
  | .service => { s with part := .shuttingDown }.reply .ok []
  | _ => s.reply .ok []

/-- SERVICE_ENTER (R186). -/
def State.takeServiceEnter (s : State) : State :=
  match s.part with
  | .service => s.reply .ok []
  | .inUse =>
    if s.bothIdle ∧ !s.resolving .a ∧ !s.resolving .b then s.enterService.reply .ok [] else s.reply .wrongState []
  | _ => s.reply .shuttingDown []

/-- SERVICE_LEAVE (R188). -/
def State.takeServiceLeave (s : State) : State :=
  if s.part ≠ .service then s.reply .notInService []
  else if s.chu.dump.isSome then s.reply .busy []
  else match s.validate with
    | some (t, i) => s.reply .tableInvalid (be 1 t.code ++ be 1 i)
    | none => s.leaveService.reply .ok []

/-! ## Sales -/

/-- The combinations of kind, delivery and payment allowed (R6). -/
def combines (k : ProductKind) (d : Delivery) (p : Payment) : Bool :=
  match k, d, p with
  | .single, .paper, .coins => true
  | .returnTicket, .paper, .coins => true
  | .pass, .paper, .coins => true
  | .pass, .card, _ => true
  | .topup, .card, .coins => true
  | _, _, _ => false

/-- Whether a service level permits the media (R6 check 4). -/
def ServiceLevel.permits (v : ServiceLevel) (d : Delivery) (p : Payment) : Bool :=
  (p ≠ .coins || v.coins) && (!(p = .cardValue || d = .card) || v.cards)

/-- Checks 1 to 8 of R6 in order: the code of the first that fails, or the product. -/
def State.saleChecks (s : State) (l : Lane) (o : SaleOperands) : Except Status Product :=
  let d := Delivery.ofCode o.delivery
  let p := Payment.ofCode o.payment
  if s.part = .shuttingDown then .error .shuttingDown
  else if s.part ≠ .inUse then .error .serviceState
  else if (s.lane l).state ≠ .idle ∨ (s.coin l).audit then .error .wrongState
  else match s.fcu.find o.product with
    | none => .error .unknownProduct
    | some x =>
      if !combines x.kind d p then .error .badCombination
      else if !s.fcu.inRange x o.zones o.quantity o.concession o.topup then .error .range
      else if !(s.level l).permits d p then .error .laneDegraded
      else if !s.clk.set then .error .clockUnset
      else if 60 < s.stored + s.held + 2 then .error .journalFull
      else if d = .paper ∧ !s.pru.canReserve then .error .printerUnavailable
      else if d = .card ∧ 16 ≤ s.crt.count + s.crt.reservations then .error .recoveryFull
      else .ok x

/-- The sale context of a sale just opened (R7), not yet priced: until then the zones asked stand for the zones priced (log
entry 64). -/
def State.newSale (s : State) (o : SaleOperands) (x : Product) : Sale where
  seq := seqNext s.saleSeq
  product := o.product
  kind := x.kind
  zonesAsked := o.zones
  zonesPriced := o.zones
  quantity := o.quantity
  concession := o.concession
  delivery := Delivery.ofCode o.delivery
  payment := Payment.ofCode o.payment
  topup := o.topup
  receipt := o.receipt = 1
  receiptLines := o.lines
  price := none
  conds := PriceConds.none
  coinsReceived := 0
  committed := 0
  serial := none
  slot := none
  entryNo := none
  entryAttached := false
  waitKind := none
  refundOutcome := none
  changePaid := 0
  refundPaid := 0
  shortfall := 0
  escrowReturned := 0
  corrections := []
  opened := s.now
  journalRes := 2
  ticketSlot := Delivery.ofCode o.delivery = .paper
  recoveryRes := Delivery.ofCode o.delivery = .card
  verified := false
  bound := false
  validity := none
  purse := 0
  bonus := 0

/-- The OK reply of SALE_OPEN (R209). -/
def State.saleReply (s : State) (x : Sale) : State :=
  s.reply .ok (be 4 x.seq ++ optBe 4 x.price ++ be 1 x.conds.byte)

/-- The sale becomes open on its lane (R7): idle polling ends, the reservations stand, the sequence is drawn. -/
def State.openSale (s : State) (l : Lane) (x : Sale) : State :=
  let s1 := s.endPurpose l
  let s2 := (s1.setTicketSlot l x.ticketSlot).setCrtRes l x.recoveryRes
  { s2 with saleSeq := x.seq }.setLane l { s2.lane l with sale := some x }

/-- The status of a pricing refusal at SALE_OPEN (R7). TOPUP_LIMIT and LIMIT never stand in a reply (section 11.2), and an
admitted sale is never refused UNKNOWN_PRODUCT or RANGE (R6). -/
def PriceRefusal.status : PriceRefusal → Status
  | .unknownProduct => .unknownProduct
  | .range => .range
  | .zoneRange => .zoneRange
  | .inexact => .inexact
  | .overCeiling => .overCeiling
  | .amountRange => .amountRange
  | .zeroPrice => .zeroPrice
  | .topupLimit => .range
  | .limit => .range

/-- An admitted SALE_OPEN for CARD delivery (R7, R9). -/
def State.openCard (s : State) (l : Lane) (x : Sale) : State :=
  let s1 := ((s.openSale l x).saleReply x).enter l .awaitCard
  (s1.startTimer l s.timers.awaitCard).setPurpose l .saleRead

/-- An admitted SALE_OPEN for PAPER delivery (R7). -/
def State.openPaper (s : State) (l : Lane) (x : Sale) : State :=
  match s.priceAtCard x none with
  | .refused code c => s.reply code.status (be 1 c.byte)
  | .priced q =>
    let y := x.priced q none
    let s1 := (s.openSale l y).saleReply y
    if q.price = 0 then s1.deliver l else s1.startPaying l

/-- SALE_OPEN (R6, R7, R209). -/
def State.takeSaleOpen (s : State) (l : Lane) (o : SaleOperands) : State :=
  if !operandsCoded o then s.reply .range []
  else match s.saleChecks l o with
    | .error c => s.reply c []
    | .ok x =>
      let y := s.newSale o x
      if y.delivery = .card then s.openCard l y else s.openPaper l y

/-- SALE_CANCEL (R15). -/
def State.takeSaleCancel (s : State) (l : Lane) : State :=
  match (s.lane l).state with
  | .awaitCard => (s.closeSale l .cancelled none).reply .ok []
  | .paying => (s.refund l .cancelled).reply .ok []
  | .idle => s.reply .wrongState []
  | .enquiry => s.reply .wrongState []
  | .recovering => s.reply .wrongState []
  | _ => s.reply .tooLate []

/-- CARD_READ (R27). -/
def State.takeCardRead (s : State) (l : Lane) : State :=
  if s.part = .shuttingDown then s.reply .shuttingDown []
  else if s.part ≠ .inUse then s.reply .serviceState []
  else if (s.lane l).state ≠ .idle ∨ (s.coin l).audit then s.reply .wrongState []
  else if (s.lane l).cardFault then s.reply .laneDegraded []
  else
    (((((s.endPurpose l).enter l .enquiry).startTimer l 10).setPurpose l .enquiry).reply .ok [])

/-- Put the FIELD_POLL of a LANE_RESTORE check: behind the lane's exchange if one is waiting or in progress (R154). -/
def State.restorePoll (s : State) (l : Lane) : State :=
  (s.setSession l { s.session l with restoreWaiting := true }).restoreNext l

/-- LANE_RESTORE (R5): the coin path is checked at once, the card path by a FIELD_POLL; the reply gives what the coin check
found then (log entry 32). -/
def State.takeLaneRestore (s : State) (l : Lane) : State :=
  let c := s.lane l
  let still := c.coinFault && !(s.coin l).linkUp
  let s1 := s.setLane l { c with coinFault := still }
  if c.cardFault then { s1 with restore := some ⟨l, still⟩ }.restorePoll l else s1.restoreReply still false

/-! ## Coins and tubes -/

/-- A list without repeats, each item where it first stands: the order in which COIN_INHIBIT reports its set (log entry
37). -/
def distinct : List Nat → List Nat
  | [] => []
  | d :: ds => d :: (distinct ds).filter (· ≠ d)

/-- COIN_INHIBIT (R65). -/
def State.takeCoinInhibit (s : State) (l : Lane) (ds : List Nat) : State :=
  if ds.length ≤ 8 ∧ ds.all (fun d => 1 ≤ d && d ≤ 50000) then
    (s.setCoin l { s.coin l with inhibits := distinct ds }).reply .ok (listBytes (be 4) (distinct ds))
  else s.reply .range []

/-- COIN_AUDIT (R71). ON checks the part state before the lane state (log entry 10). -/
def State.takeCoinAudit (s : State) (l : Lane) (switch : Nat) : State :=
  if switch = 0 then (s.setCoin l { s.coin l with audit := false }).reply .ok []
  else if switch ≠ 1 then s.reply .range []
  else if s.part = .shuttingDown then s.reply .shuttingDown []
  else if s.part ≠ .inUse then s.reply .serviceState []
  else if (s.coin l).audit then s.reply .ok []
  else if (s.lane l).state ≠ .idle then s.reply .wrongState []
  else (s.setCoin l { s.coin l with audit := true }).reply .ok []

/-- One tube of a TUBE_READ reply (R96). An unused tube, which has no low state (R83), is given as NOT_LOW (log entry 54). -/
def State.tubeItem (s : State) (n : TubeNo) : List Byte :=
  let t := s.tube n
  be 4 t.denom ++ be 1 t.capacity ++ be 1 t.count ++ be 1 (planAt s.chu.res.a n) ++ be 1 (planAt s.chu.res.b n) ++
  be 1 t.pendingIn ++ be 1 (if t.low then 2 else 1)

/-- The order queue of a TUBE_READ reply: the first order is dispensing, the second waits. -/
def orderItems : List Order → List Byte
  | [] => be 1 0
  | os => be 1 os.length ++ (os.mapIdx fun i o =>
      be 1 o.kind.code ++ be 1 o.lane.code ++ be 4 o.amount ++ be 4 o.paid ++ be 1 (if i = 0 then 1 else 2)).flatten

/-- TUBE_READ (R96). -/
def State.takeTubeRead (s : State) : State :=
  s.reply .ok (TubeNo.all.flatMap s.tubeItem ++ orderItems s.chu.orders)

/-- TUBE_SET (R97). -/
def State.takeTubeSet (s : State) (n count : Nat) : State :=
  if s.part ≠ .service then s.reply .notInService []
  else match TubeNo.ofCode n with
    | none => s.reply .range []
    | some k =>
      let t := s.tube k
      if t.capacity < count ∨ (t.denom = 0 ∧ 0 < count) then s.reply .range []
      else if s.chu.dump.isSome then s.reply .busy []
      else
        let s1 := (s.setCount k count).evalLow k
        (s1.storeOther (.tube ⟨k, t.denom, false, t.count, count, 0, 0, 0, s.now⟩)).reply .ok []

/-- TUBE_DUMP (R98). -/
def State.takeTubeDump (s : State) (n coins : Nat) : State :=
  if s.part ≠ .service then s.reply .notInService []
  else match TubeNo.ofCode n with
    | none => s.reply .range []
    | some k =>
      let t := s.tube k
      if t.denom = 0 ∨ coins = 0 ∨ t.count < coins then s.reply .range []
      else if s.chu.dump.isSome then s.reply .busy []
      else if !s.ciu.boxPresent then s.reply .cashboxAbsent []
      else
        let d : Dump := ⟨k, coins, t.count, 0, 0, 0, false⟩
        ({ s with chu := { s.chu with dump := some d, diverterBox := true } }.pulse k).reply .ok []

/-! ## Recovery table -/

/-- The fields of R121 in their order, with what stands in the place of the pass slot image. -/
def CrtEntry.fields (e : CrtEntry) (n : Nat) (image : List Byte) : List Byte :=
  be 1 n ++ e.serial ++ be 1 e.lane.code ++ be 1 e.kind.code ++ be 2 e.expected ++
  (be 3 e.balance ++ be 2 e.expected ++ be 1 e.lane.code ++ be 2 e.day) ++ be 4 e.credit ++
  (optBe 1 (e.slot.map Prod.fst) ++ image) ++ be 4 e.saleSeq ++ optTime e.created ++ be 1 (if e.attached then 1 else 2)

/-- An entry as RECOVERY_LIST carries it: the fields of R121 but the pass slot image (R132). -/
def CrtEntry.bytes (e : CrtEntry) (n : Nat) : List Byte := e.fields n []

/-- An entry as RECOVERY_DROP carries it: all fields of R121, the pass slot image as the block that was composed, zeros
where there is none (R131; log entry 25). -/
def CrtEntry.dropBytes (e : CrtEntry) (n : Nat) : List Byte :=
  e.fields n (match e.slot with
    | some x => slotBlock x.2
    | none => List.replicate 16 0)

/-- The entries whose numbers are `first` or above, in ascending number. -/
def Crt.listFrom (c : Crt) (first : Nat) : List (Nat × CrtEntry) :=
  (entryNumbers.filter (first ≤ ·)).filterMap fun n => (c.entry n).map fun e => (n, e)

/-- RECOVERY_LIST (R132). -/
def State.takeRecoveryList (s : State) (first n : Nat) : State :=
  if 15 < first ∨ n = 0 ∨ 4 < n then s.reply .range []
  else s.reply .ok (be 1 s.crt.count ++ be 1 s.crt.reservations ++ optSerial s.crt.claims.a ++
    optSerial s.crt.claims.b ++ listBytes (fun x => x.2.bytes x.1) ((s.crt.listFrom first).take n))

/-- RECOVERY_DROP (R131). -/
def State.takeRecoveryDrop (s : State) (n : Nat) : State :=
  if s.part ≠ .service then s.reply .notInService []
  else if 15 < n then s.reply .range []
  else match s.crt.entry n with
    | none => s.reply .noEntry []
    | some e => if s.admits then (s.abandon n e).reply .ok (e.dropBytes n) else s.reply .journalFull []

/-! ## Printer and bus -/

/-- PAPER_LOADED (R143): PAPER_LOW is re-evaluated at once with the paper state last reported, before the status that follows
(log entry 57). -/
def State.takePaperLoaded (s : State) : State :=
  (({ s with pru := { s.pru with linesRemaining := s.pru.rollLines } }.evalPaperLow).wantStatus).reply .ok []

/-- PRINT_TEXT (R149). -/
def State.takePrintText (s : State) (lines : List (List Byte)) : State :=
  if lines = [] ∨ 40 < lines.length ∨ !lines.all lineOk then s.reply .range []
  else if s.part = .shuttingDown then s.reply .shuttingDown []
  else
    let t := s.askJob .service none 0 lines
    match t.2 with
    | some id => t.1.reply .ok (be 1 id)
    | none => t.1.reply .notQueued []

/-- PRINT_CANCEL (R146). -/
def State.takePrintCancel (s : State) (id : Nat) : State :=
  if id = 0 then s.reply .range []
  else match s.pru.jobs.find? fun j => j.id = id with
    | none => s.reply .noJob []
    | some j =>
      if j.kind.first then s.reply .notCancellable []
      else if j.printing then
        { s with pru := s.pru.modify id fun x => { x with cancel := true } }.reply .ok []
      else (s.endJob j .cancelled).reply .ok []

/-- The age order of a job in PRINT_LIST (R150): its rank by age over all jobs, 1 for the oldest (log entry 25). -/
def Pru.rank (p : Pru) (j : Job) : Nat := (p.jobs.filter fun k => k.age < j.age).length + 1

/-- One job of a PRINT_LIST reply (R150). -/
def Pru.jobItem (p : Pru) (j : Job) : List Byte :=
  be 1 j.id ++ be 1 j.kind.code ++ be 1 ((j.lane.map Lane.code).getD 0) ++ be 4 j.seq ++
  be 1 (if j.printing then 2 else 1) ++ be 1 (p.rank j) ++ be 1 j.lines.length ++ be 1 j.printed ++ flagByte j.cancel

/-- The lanes that hold a ticket reservation. -/
def Pru.reservedLanes (p : Pru) : List Lane := [Lane.a, Lane.b].filter p.reserved.get

/-- PRINT_LIST (R150). The time left on a running hold timer is a free value of at most 20 s (log entry 3), carried as one
byte of seconds without a presence byte, 0 while the timer is stopped or expired (log entry 25). -/
def State.takePrintList (s : State) : State :=
  let p := s.pru
  let left := if p.hold = .running then Config.holdTimeLeft s.freeCount % 21 else 0
  let t := s.reply .ok (be 1 p.printer.code ++ be 1 (paperCode p.paper) ++ be 1 (coverCode p.cover) ++
    be 2 p.linesRemaining ++ flagByte p.paperLow ++ be 1 p.hold.code ++ be 1 left ++
    listBytes (fun l => be 1 l.code) p.reservedLanes ++ listBytes p.jobItem p.jobs)
  if p.hold = .running then { t with freeCount := s.freeCount + 1 } else t

/-- One device of a BUS_READ reply (R167). -/
def Dbc.item (b : Dbc) (d : Dev) : List Byte :=
  let held := b.current.filter fun e => e.dev = d
  be 1 (b.counts.get d) ++ be 1 (b.last.get d).code ++ flagByte held.isSome ++
  be 1 ((held.map fun e => e.req.code).getD 0) ++ be 1 ((held.map fun e => e.phase.code).getD 0) ++
  flagByte (b.waiting.get d).isSome ++ be 1 (((b.waiting.get d).map BusReq.code).getD 0)

/-- The device number (R152). -/
def Dev.number : Dev → Nat
  | .frontA => 0
  | .frontB => 1
  | .printer => 2

/-- BUS_READ (R167). -/
def State.takeBusRead (s : State) : State :=
  s.reply .ok (s.dbc.item .frontA ++ s.dbc.item .frontB ++ s.dbc.item .printer ++
    optBe 1 (s.dbc.pointer.map Dev.number))

/-! ## Journal and totals -/

/-- The sequence of the oldest stored record, 0 for none. -/
def State.oldestSeq (s : State) : Nat := (s.jnu.journal.head?.map Record.seq).getD 0

/-- JOURNAL_READ (R176, section 12.3). -/
def State.takeJournalRead (s : State) (offset n : Nat) : State :=
  if n = 0 ∨ 4 < n ∨ s.stored < offset then s.reply .range []
  else
    let rs := fitRecords n 230 (s.jnu.journal.drop offset)
    s.reply .ok (be 1 s.stored ++ be 1 s.held ++ be 4 s.oldestSeq ++ flagByte s.jnu.incomplete ++
      be 1 s.jnu.lost ++ listBytes Record.bytes rs)

/-- JOURNAL_RELEASE (R177). -/
def State.takeJournalRelease (s : State) (first n : Nat) : State :=
  if n = 0 ∨ 64 < n then s.reply .range []
  else if s.jnu.journal.head?.map Record.seq ≠ some first then s.reply .sequenceMismatch []
  else if s.stored < n then s.reply .range []
  else
    let t := s.releaseRecords n
    t.reply .ok (be 1 t.stored ++ be 4 t.oldestSeq)

def TotalsRow.bytes (r : TotalsRow) : List Byte :=
  be 4 r.accepted ++ be 4 r.toTubes ++ be 4 r.paidOut ++ be 4 r.written ++ be 4 r.toBox

/-- The SUMMARY section (R183). `period` is what a snapshot adds: its end and mode. -/
def Totals.summary (t : Totals) (period : List Byte) : List Byte :=
  optTime t.start ++ period ++ t.kinds.flatMap (fun k => be 4 k.1 ++ be 4 k.2) ++ t.outcomes.flatMap (be 4) ++
  be 4 t.credit ++ be 4 t.debited ++ be 4 t.shortfall ++ be 1 t.rows.length ++ flagByte t.saturated

/-- The DENOMINATIONS section (R183): up to eight rows, and the OTHER row once the last numbered row is reached, behind a
presence byte of its own (log entry 25). -/
def Totals.denominations (t : Totals) (first : Nat) : List Byte :=
  let rows := (t.rows.drop first).take 8
  let last := decide (t.rows.length ≤ first + 8)
  listBytes (fun r => be 4 r.denom ++ r.bytes) rows ++ flagByte last ++
  (if last then t.otherCounts.bytes ++ t.otherValues.bytes else [])

/-- The RETURNS section (R183). -/
def Totals.returnItems (t : Totals) : List Byte := t.returns.a.flatMap (be 4) ++ t.returns.b.flatMap (be 4)

/-- A section of a totals set; none where the first row is above the number of rows. -/
def Totals.read (t : Totals) (period : List Byte) (section_ row : Nat) : Option (List Byte) :=
  if section_ = 1 then some (t.summary period)
  else if section_ = 2 then (if t.rows.length < row then none else some (t.denominations row))
  else some t.returnItems

/-- TOTALS_READ (R183). A SNAPSHOT reply opens with a presence byte, 0 for NONE. -/
def State.takeTotalsRead (s : State) (set section_ row : Nat) : State :=
  if section_ = 0 ∨ 3 < section_ then s.reply .range []
  else if set = 1 then
    match s.jnu.totals.read [] section_ row with
    | some bs => s.reply .ok bs
    | none => s.reply .range []
  else if set = 2 then
    match s.jnu.snapshot with
    | none => s.reply .ok (be 1 0)
    | some x => match x.totals.read (optTime x.stop ++ be 1 x.mode.code) section_ row with
      | some bs => s.reply .ok (be 1 1 ++ bs)
      | none => s.reply .range []
  else s.reply .range []

/-- A manual snapshot ends a waiting automatic one and marks its day done (R181). -/
def State.endRetry (s : State) : State :=
  match s.jnu.retry with
  | some d => { s with jnu := { s.jnu with lastAutoDay := some d, retry := none } }
  | none => s

/-- TOTALS_SNAPSHOT (R181). -/
def State.takeTotalsSnapshot (s : State) : State :=
  if s.admits then
    (s.takeSnapshot .manual).endRetry.reply .ok (be 4 s.jnu.recSeq ++ optTime s.now)
  else s.reply .journalFull []

end Sys2Proof.Machine
end

