-- ==== Sys2Proof/Machine/Link.lean ====
section
/-! DEFINITION. The link interface: the receiver (R199, R208), the hold and the gate (R200), the transmitter (R201, R202),
and what settles at the end of every command: idle polling (R28), the sale snapshots (R26) and the transmitter. -/

namespace Sys2Proof.Machine

/-! ## The gate and the owners (R200) -/

/-- The LKI's checks of a request in service (R200): the reply of the first that fails. -/
def State.gate (s : State) (h : Held) : Option Status :=
  if h.req = .unknown then some .unknownRequest
  else if h.req = .badLength then some .badLength
  else if s.part = .starting ∧ h.code ∉ [0x01, 0x02] then some .serviceState
  else if s.part = .quiesced ∧ h.code ∉ [0x01, 0x02, 0x04, 0x40, 0x41, 0x42] then some .quiesced
  else none

/-- The owner of a request whose lane byte names a lane refuses RANGE any other code (R200). -/
def State.onLane (s : State) (lane : Nat) (f : State → Lane → State) : State :=
  match Lane.ofCode lane with
  | some l => f s l
  | none => s.reply .range []

/-- A request that passed the gate goes to its owner (section 11.3). -/
def State.perform (s : State) (h : Held) : State :=
  match h.req with
  | .status => s.takeStatus
  | .identify => s.takeIdentify
  | .clockSet d t => s.takeClockSet d t
  | .reset f => s.takeReset f
  | .shutdown => s.takeShutdown
  | .serviceEnter => s.takeServiceEnter
  | .serviceLeave => s.takeServiceLeave
  | .tableWrite i e => s.tableWrite i e
  | .tableWriteOther _ => s.tableWriteOther
  | .tableRead t i => s.tableRead t i
  | .saleOpen o => s.onLane h.lane fun t l => t.takeSaleOpen l o
  | .saleCancel => s.onLane h.lane State.takeSaleCancel
  | .cardRead => s.onLane h.lane State.takeCardRead
  | .laneRestore => s.onLane h.lane State.takeLaneRestore
  | .coinInhibit ds => s.onLane h.lane fun t l => t.takeCoinInhibit l ds
  | .coinAudit x => s.onLane h.lane fun t l => t.takeCoinAudit l x
  | .tubeRead => s.takeTubeRead
  | .tubeSet n c => s.takeTubeSet n c
  | .tubeDump n c => s.takeTubeDump n c
  | .recoveryList f n => s.takeRecoveryList f n
  | .recoveryDrop n => s.takeRecoveryDrop n
  | .paperLoaded => s.takePaperLoaded
  | .printText ls => s.takePrintText ls
  | .printCancel j => s.takePrintCancel j
  | .printList => s.takePrintList
  | .busRead => s.takeBusRead
  | .journalRead o n => s.takeJournalRead o n
  | .journalRelease f n => s.takeJournalRelease f n
  | .totalsRead x c r => s.takeTotalsRead x c r
  | .totalsSnapshot => s.takeTotalsSnapshot
  | .unknown => s.reply .unknownRequest []
  | .badLength => s.reply .badLength []

/-- The oldest held frame enters service: the gate, then its owner. -/
def State.serve (s : State) : State :=
  match s.lki.hold with
  | [] => s
  | h :: _ => match s.gate h with
    | some c => s.reply c []
    | none => s.perform h

/-! ## Receiving (R199, R200) -/

/-- A frame is discarded: the link drop count rises. -/
def State.dropFrame (s : State) : State :=
  { s with lki := { s.lki with dropCount := bump255 s.lki.dropCount } }

/-- A complete frame (R199, R200): a reply's shape, a body that no frame carries or a full hold discards it; otherwise it is
held, and enters service at once when no frame is before it. -/
def State.acceptFrame (s : State) (h : Held) (size : Nat) : State :=
  if 0x80 ≤ h.code ∨ 240 < size ∨ 2 ≤ s.lki.hold.length then s.dropFrame
  else
    let t := { s with lki := { s.lki with hold := s.lki.hold ++ [h] } }
    if s.lki.hold = [] then t.serve else t

/-- A complete frame that carries a request given by its operands. -/
def State.request (s : State) (lane tag : Nat) (r : Request) : State :=
  s.acceptFrame ⟨requestCode r, lane, tag, r⟩ (requestSize r)

/-- A complete frame given by its code and body. -/
def State.frame (s : State) (code lane tag : Nat) (body : List Byte) : State :=
  s.acceptFrame ⟨code, lane, tag, requestOf code body⟩ body.length

def State.setReceiver (s : State) (r : Receiver) : State := { s with lki := { s.lki with receiver := r } }

/-- The bytes after the start byte that make a whole frame, from its length byte: length, code, lane, tag, body, CRC. -/
def frameSize (len : Nat) : Nat := len + 6

/-- All bytes of a frame are in: the CRC decides (R199, R208). -/
def State.frameEnd (s : State) (bs : List Byte) : State :=
  let n := bs.length - 2
  let t := s.setReceiver none
  if be 2 (crc16 (bs.take n)).toNat = bs.drop n then
    t.frame (field bs 1 1) (field bs 2 1) (field bs 3 1) ((bs.take n).drop 4)
  else t.dropFrame

/-- The receiver takes a byte (R199). -/
def State.takeByte (s : State) (b : Byte) (framingError : Bool) : State :=
  match s.lki.receiver with
  | none => if b = 0xA5 ∧ !framingError then s.setReceiver (some []) else s
  | some bs =>
    if framingError then (s.setReceiver none).dropFrame
    else
      let all := bs ++ [b]
      let len := field all 0 1
      if 240 < len then (s.setReceiver none).dropFrame
      else if all.length = frameSize len then s.frameEnd all
      else s.setReceiver (some all)

/-- 10 ms without a byte while a frame is being assembled (R199). -/
def State.receiveTimeout (s : State) : State :=
  match s.lki.receiver with
  | none => s
  | some _ => (s.setReceiver none).dropFrame

/-! ## Sending (R201, R202) -/

/-- The transmitter, if free, begins with a ready reply or else with the oldest notice. -/
def State.pump (s : State) : State :=
  match s.lki.tx with
  | some _ => s
  | none => match s.lki.ready with
    | some r => { s with lki := { s.lki with tx := some (.reply r), ready := none } }
    | none => match s.lki.notices with
      | n :: ns => { s with lki := { s.lki with tx := some (.notice n), notices := ns } }
      | [] => s

/-- A reply has been sent in full: its hold place is free, a pending RESET takes effect, and otherwise the frame behind
enters service (R195, R200). -/
def State.replySent (s : State) : State :=
  let t := { s with lki := { s.lki with tx := none, hold := s.lki.hold.tail } }
  if s.resetPending then t.resetNow else t.serve

/-- The frame being sent ends (R201). -/
def State.transmitted (s : State) : State :=
  match s.lki.tx with
  | none => s
  | some (.notice _) => { s with lki := { s.lki with tx := none } }
  | some (.reply _) => s.replySent

/-! ## What settles at the end of a command -/

/-- The retained copy of a lane's open sale (R26). -/
def State.snap (s : State) (l : Lane) : State :=
  let c := s.lane l
  s.setLane l { c with snapshot := c.sale.map fun x => ⟨x, c.state, (s.coin l).tray⟩ }

/-- The end of every command: idle polling as it now stands (R28), the snapshots written through (R26), the transmitter. -/
def State.settle (s : State) : State := ((s.forLanes State.refreshScan).forLanes State.snap).pump

/-- A command's effect: outputs cleared, the change, and what settles. -/
def State.run (s : State) (f : State → State) : Host.Outcome State Fault Refusal := .next (f s.begin).settle

end Sys2Proof.Machine
end

