-- ==== Sys2Proof/Machine/Requests.lean ====
section
/-! DEFINITION. The host requests: one meaning per row of the opcode table. Each is a complete frame that carries the request
(R199, R200), with its lane byte, its tag and the fields of its body; the owner's answer stands in Owners.lean and
Tables.lean. -/

namespace Sys2Proof.Machine

/-- STATUS (R206, R207). -/
def execStatus (lane tag : Nat) (s : State) : Host.Outcome State Fault Refusal :=
  s.run fun t => t.request lane tag .status

/-- IDENTIFY (R198). -/
def execIdentify (lane tag : Nat) (s : State) : Host.Outcome State Fault Refusal :=
  s.run fun t => t.request lane tag .identify

/-- CLOCK_SET (R190). -/
def execClockSet (lane tag day second : Nat) (s : State) : Host.Outcome State Fault Refusal :=
  s.run fun t => t.request lane tag (.clockSet day second)

/-- RESET with force (R195). -/
def execResetWithForce (lane tag : Nat) (s : State) : Host.Outcome State Fault Refusal :=
  s.run fun t => t.request lane tag (.reset 1)

/-- RESET without force (R195). -/
def execResetWithoutForce (lane tag : Nat) (s : State) : Host.Outcome State Fault Refusal :=
  s.run fun t => t.request lane tag (.reset 0)

/-- SHUTDOWN (R196). -/
def execShutdown (lane tag : Nat) (s : State) : Host.Outcome State Fault Refusal :=
  s.run fun t => t.request lane tag .shutdown

/-- SERVICE_ENTER (R186). -/
def execServiceEnter (lane tag : Nat) (s : State) : Host.Outcome State Fault Refusal :=
  s.run fun t => t.request lane tag .serviceEnter

/-- SERVICE_LEAVE (R188). -/
def execServiceLeave (lane tag : Nat) (s : State) : Host.Outcome State Fault Refusal :=
  s.run fun t => t.request lane tag .serviceLeave

/-- TABLE_WRITE of a product entry (R31). -/
def execTableWriteProduct (lane tag index : Nat) (e : ProductFields) (s : State) :
    Host.Outcome State Fault Refusal :=
  s.run fun t => t.request lane tag (.tableWrite index (.product e))

/-- TABLE_WRITE of a concession class (R32). -/
def execTableWriteConcession (lane tag index discount kinds : Nat) (s : State) :
    Host.Outcome State Fault Refusal :=
  s.run fun t => t.request lane tag (.tableWrite index (.concession discount kinds))

/-- TABLE_WRITE of a time band (R33). -/
def execTableWriteBand (lane tag index used start stop factor : Nat) (s : State) :
    Host.Outcome State Fault Refusal :=
  s.run fun t => t.request lane tag (.tableWrite index (.band used start stop factor))

/-- TABLE_WRITE of a top-up tier (R34). -/
def execTableWriteTier (lane tag index used threshold rate : Nat) (s : State) : Host.Outcome State Fault Refusal :=
  s.run fun t => t.request lane tag (.tableWrite index (.tier used threshold rate))

/-- TABLE_WRITE of the global settings (R35). -/
def execTableWriteGlobal (lane tag index unit mode bmax mask : Nat) (s : State) :
    Host.Outcome State Fault Refusal :=
  s.run fun t => t.request lane tag (.tableWrite index (.global unit mode bmax mask))

/-- TABLE_WRITE of an acceptance entry (R56). -/
def execTableWriteAcceptance (lane tag index : Nat) (e : AcceptFields) (s : State) :
    Host.Outcome State Fault Refusal :=
  s.run fun t => t.request lane tag (.tableWrite index (.acceptance e))

/-- TABLE_WRITE of a tube (R79). -/
def execTableWriteTube (lane tag index denom capacity l1 l2 : Nat) (s : State) :
    Host.Outcome State Fault Refusal :=
  s.run fun t => t.request lane tag (.tableWrite index (.tube denom capacity l1 l2))

/-- TABLE_WRITE of the coin limit (R79). -/
def execTableWriteCoinLimit (lane tag index lc : Nat) (s : State) : Host.Outcome State Fault Refusal :=
  s.run fun t => t.request lane tag (.tableWrite index (.coinLimit lc))

/-- TABLE_WRITE of the paper parameters (R145). -/
def execTableWritePaper (lane tag index roll low high : Nat) (s : State) : Host.Outcome State Fault Refusal :=
  s.run fun t => t.request lane tag (.tableWrite index (.paper roll low high))

/-- TABLE_WRITE of the journal parameters (R184). -/
def execTableWriteJournal (lane tag index watermark wait autoOn auto : Nat) (s : State) :
    Host.Outcome State Fault Refusal :=
  s.run fun t => t.request lane tag (.tableWrite index (.journal watermark wait autoOn auto))

/-- TABLE_WRITE of the timers (R187). -/
def execTableWriteTimers (lane tag index awaitCard inactivity window hold : Nat) (s : State) :
    Host.Outcome State Fault Refusal :=
  s.run fun t => t.request lane tag (.tableWrite index (.timers awaitCard inactivity window hold))

/-- TABLE_WRITE of a notice mode (R204). -/
def execTableWriteNoticeModes (lane tag index mode : Nat) (s : State) : Host.Outcome State Fault Refusal :=
  s.run fun t => t.request lane tag (.tableWrite index (.noticeMode mode))

/-- TABLE_READ (R187). -/
def execTableRead (lane tag table index : Nat) (s : State) : Host.Outcome State Fault Refusal :=
  s.run fun t => t.request lane tag (.tableRead table index)

/-- SALE_OPEN (R6, R7, R209). -/
def execSaleOpen (lane tag : Nat) (o : SaleOperands) (s : State) : Host.Outcome State Fault Refusal :=
  s.run fun t => t.request lane tag (.saleOpen o)

/-- SALE_CANCEL (R15). -/
def execSaleCancel (lane tag : Nat) (s : State) : Host.Outcome State Fault Refusal :=
  s.run fun t => t.request lane tag .saleCancel

/-- CARD_READ (R27). -/
def execCardRead (lane tag : Nat) (s : State) : Host.Outcome State Fault Refusal :=
  s.run fun t => t.request lane tag .cardRead

/-- LANE_RESTORE (R5). -/
def execLaneRestore (lane tag : Nat) (s : State) : Host.Outcome State Fault Refusal :=
  s.run fun t => t.request lane tag .laneRestore

/-- COIN_INHIBIT (R65). -/
def execCoinInhibit (lane tag : Nat) (denoms : List Nat) (s : State) : Host.Outcome State Fault Refusal :=
  s.run fun t => t.request lane tag (.coinInhibit denoms)

/-- COIN_AUDIT ON (R71). -/
def execCoinAuditOn (lane tag : Nat) (s : State) : Host.Outcome State Fault Refusal :=
  s.run fun t => t.request lane tag (.coinAudit 1)

/-- COIN_AUDIT OFF (R71). -/
def execCoinAuditOff (lane tag : Nat) (s : State) : Host.Outcome State Fault Refusal :=
  s.run fun t => t.request lane tag (.coinAudit 0)

/-- TUBE_READ (R96). -/
def execTubeRead (lane tag : Nat) (s : State) : Host.Outcome State Fault Refusal :=
  s.run fun t => t.request lane tag .tubeRead

/-- TUBE_SET (R97). -/
def execTubeSet (lane tag tube count : Nat) (s : State) : Host.Outcome State Fault Refusal :=
  s.run fun t => t.request lane tag (.tubeSet tube count)

/-- TUBE_DUMP (R98). -/
def execTubeDump (lane tag tube coins : Nat) (s : State) : Host.Outcome State Fault Refusal :=
  s.run fun t => t.request lane tag (.tubeDump tube coins)

/-- RECOVERY_LIST (R132). -/
def execRecoveryList (lane tag first n : Nat) (s : State) : Host.Outcome State Fault Refusal :=
  s.run fun t => t.request lane tag (.recoveryList first n)

/-- RECOVERY_DROP (R131). -/
def execRecoveryDrop (lane tag n : Nat) (s : State) : Host.Outcome State Fault Refusal :=
  s.run fun t => t.request lane tag (.recoveryDrop n)

/-- PAPER_LOADED (R143). -/
def execPaperLoaded (lane tag : Nat) (s : State) : Host.Outcome State Fault Refusal :=
  s.run fun t => t.request lane tag .paperLoaded

/-- PRINT_TEXT (R149). -/
def execPrintText (lane tag : Nat) (lines : List (List Byte)) (s : State) : Host.Outcome State Fault Refusal :=
  s.run fun t => t.request lane tag (.printText lines)

/-- PRINT_CANCEL (R146). -/
def execPrintCancel (lane tag job : Nat) (s : State) : Host.Outcome State Fault Refusal :=
  s.run fun t => t.request lane tag (.printCancel job)

/-- PRINT_LIST (R150). -/
def execPrintList (lane tag : Nat) (s : State) : Host.Outcome State Fault Refusal :=
  s.run fun t => t.request lane tag .printList

/-- BUS_READ (R167). -/
def execBusRead (lane tag : Nat) (s : State) : Host.Outcome State Fault Refusal :=
  s.run fun t => t.request lane tag .busRead

/-- JOURNAL_READ (R176). -/
def execJournalRead (lane tag offset n : Nat) (s : State) : Host.Outcome State Fault Refusal :=
  s.run fun t => t.request lane tag (.journalRead offset n)

/-- JOURNAL_RELEASE (R177). -/
def execJournalRelease (lane tag first n : Nat) (s : State) : Host.Outcome State Fault Refusal :=
  s.run fun t => t.request lane tag (.journalRelease first n)

/-- TOTALS_READ (R183). -/
def execTotalsRead (lane tag set section_ row : Nat) (s : State) : Host.Outcome State Fault Refusal :=
  s.run fun t => t.request lane tag (.totalsRead set section_ row)

/-- TOTALS_SNAPSHOT (R181). -/
def execTotalsSnapshot (lane tag : Nat) (s : State) : Host.Outcome State Fault Refusal :=
  s.run fun t => t.request lane tag .totalsSnapshot

/-- UNKNOWN_REQUEST (R200): a frame whose code names no request of the catalogue; a frame given with a catalogue
code is decoded as that request's. -/
def execUnknownRequest (lane tag code : Nat) (body : List Byte) (s : State) : Host.Outcome State Fault Refusal :=
  s.run fun t => t.frame code lane tag body

end Sys2Proof.Machine
end

