-- ==== Sys2Proof/Machine/Events.lean ====
section
/-! DEFINITION. The events: one meaning per row of the opcode table that is no host request. A timer's expiry acts only while
the timer runs in the state it belongs to (log entry 18). -/

namespace Sys2Proof.Machine

/-! ## Timer expiries -/

/-- The lane timer runs. -/
def State.timerRuns (s : State) (l : Lane) : Bool := (s.lane l).timer.isSome

/-- The lane timer runs out in AWAIT_CARD (R11). -/
def State.awaitCardOut (s : State) (l : Lane) : State :=
  if (s.lane l).state = .awaitCard ∧ s.timerRuns l then s.closeSale l .timedOut none else s

/-- The inactivity timer runs out in PAYING (R14). -/
def State.inactivityOut (s : State) (l : Lane) : State :=
  match (s.lane l).state, (s.lane l).sale with
  | .paying, some x =>
    if !s.timerRuns l then s
    else if x.coinsReceived = 0 then s.closeSale l .timedOut none
    else s.refund l .timedOut
  | _, _ => s

/-- The card window of a kind runs out in CARD_WAIT (R17, R19). -/
def State.windowOut (s : State) (l : Lane) (k : WaitKind) : State :=
  match (s.lane l).state, (s.lane l).sale with
  | .cardWait, some x =>
    if x.waitKind = some k ∧ s.timerRuns l then
      match k with
      | .preWrite => s.refund l .deliveryFailed
      | .inDoubt => s.doubtExpired l
    else s
  | _, _ => s

/-- The enquiry timer runs out (R27): in RECOVERING the resolution runs on (R129). -/
def State.enquiryOut (s : State) (l : Lane) : State :=
  if !s.timerRuns l then s
  else match (s.lane l).state with
    | .enquiry => s.enquiryDone l none
    | .recovering => s.stopTimer l
    | _ => s

/-- The journal wait timer runs out (R175): the notice, and the timer is preset and runs again. -/
def State.waitTimerOut (s : State) : State :=
  if s.jnu.waitTimer.runs then
    { s with jnu := { s.jnu with waitTimer := .running s.jnu.waitTime } }.notify
      (.journalWaiting s.stored (s.jnu.journal.head?.bind Record.time))
  else s

/-- The second of day of the set clock is a multiple of 60 (R189). -/
def State.minute (s : State) : Bool := s.clk.set && s.clk.second % 60 = 0

/-- The automatic snapshot falls due (R182). -/
def State.autoDue (s : State) : State :=
  if s.clk.set ∧ s.clk.counted ∧ s.jnu.autoTime = some s.clk.second ∧ s.part ≠ .starting ∧ s.part ≠ .quiesced ∧
      s.jnu.lastAutoDay ≠ some s.clk.day then s.tryAuto s.clk.day
  else s

/-- A waiting automatic snapshot is tried again (R182). -/
def State.autoRetry (s : State) : State :=
  match s.jnu.retry with
  | some d => if s.minute then s.tryAuto d else s
  | none => s

/-! ## The events -/

/-- HOST_BYTE (R199): the receiver takes one byte. -/
def execHostByte (byte : Byte) (framingError : Bool) (s : State) : Host.Outcome State Fault Refusal :=
  s.run fun t => t.takeByte byte framingError

/-- RECEIVE_TIMEOUT (R199). -/
def execReceiveTimeout (s : State) : Host.Outcome State Fault Refusal :=
  s.run fun t => t.receiveTimeout

/-- TRANSMIT_END (R201). -/
def execTransmitEnd (s : State) : Host.Outcome State Fault Refusal :=
  s.run fun t => t.transmitted

/-- COIN_RECORD (R60): the coin is classified, and then the record counts as a sign of life (R53). -/
def execCoinRecord (lane : Lane) (diam thick cond cls : Nat) (good : Bool) (s : State) :
    Host.Outcome State Fault Refusal :=
  s.run fun t => (t.coinRecord lane ⟨diam, thick, cond, cls, good⟩).signOfLife lane

/-- STATUS_RECORD (R52 to R54). -/
def execStatusRecord (lane : Lane) (blocked fault : Bool) (s : State) : Host.Outcome State Fault Refusal :=
  s.run fun t => ((t.setCoin lane { t.coin lane with headFault := fault }).signOfLife lane).pathFlag lane blocked

/-- HEAD_LINK_TIMEOUT (R53). -/
def execHeadLinkTimeout (lane : Lane) (s : State) : Host.Outcome State Fault Refusal :=
  s.run fun t => t.linkLost lane

/-- JAM_TIMER_EXPIRY (R54). -/
def execJamTimerExpiry (lane : Lane) (s : State) : Host.Outcome State Fault Refusal :=
  s.run fun t => t.jamBegins lane

/-- JAM_CLEAR_TIMER_EXPIRY (R54). -/
def execJamClearTimerExpiry (lane : Lane) (s : State) : Host.Outcome State Fault Refusal :=
  s.run fun t => t.jamEnds lane

/-- CASHBOX_REMOVED (R75). -/
def execCashboxRemoved (s : State) : Host.Outcome State Fault Refusal :=
  s.run fun t => t.boxRemoved

/-- CASHBOX_REPLACED (R75). -/
def execCashboxReplaced (s : State) : Host.Outcome State Fault Refusal :=
  s.run fun t => t.boxReplaced

/-- ESCROW_RELEASE_ENTRY (R67, R68): while a release runs. -/
def execEscrowReleaseEntry (lane : Lane) (s : State) : Host.Outcome State Fault Refusal :=
  s.run fun t => if (t.coin lane).trayOp = .releasing then t.releaseEntry lane else t

/-- ESCROW_RETURN_COMPLETE (R69): while a return runs. -/
def execEscrowReturnComplete (lane : Lane) (s : State) : Host.Outcome State Fault Refusal :=
  s.run fun t => if (t.coin lane).trayOp = .returning then t.returnTray lane else t

/-- AWAIT_CARD_TIMEOUT (R11). -/
def execAwaitCardTimeout (lane : Lane) (s : State) : Host.Outcome State Fault Refusal :=
  s.run fun t => t.awaitCardOut lane

/-- INACTIVITY_TIMEOUT (R14). -/
def execInactivityTimeout (lane : Lane) (s : State) : Host.Outcome State Fault Refusal :=
  s.run fun t => t.inactivityOut lane

/-- PRE_WRITE_WINDOW_EXPIRY (R17). -/
def execPreWriteWindowExpiry (lane : Lane) (s : State) : Host.Outcome State Fault Refusal :=
  s.run fun t => t.windowOut lane .preWrite

/-- IN_DOUBT_WINDOW_EXPIRY (R19). -/
def execInDoubtWindowExpiry (lane : Lane) (s : State) : Host.Outcome State Fault Refusal :=
  s.run fun t => t.windowOut lane .inDoubt

/-- ENQUIRY_TIMEOUT (R27, R129). -/
def execEnquiryTimeout (lane : Lane) (s : State) : Host.Outcome State Fault Refusal :=
  s.run fun t => t.enquiryOut lane

/-- CARD_POLL_TIMER (R106). -/
def execCardPollTimer (lane : Lane) (s : State) : Host.Outcome State Fault Refusal :=
  s.run fun t => t.pollDue lane

/-- REQUEST_SENT (R156). -/
def execRequestSent (s : State) : Host.Outcome State Fault Refusal :=
  s.run fun t => t.busSent

/-- READY_LOW (R156). -/
def execReadyLow (s : State) : Host.Outcome State Fault Refusal :=
  s.run fun t => t.busLow

/-- READY_RISE (R157). -/
def execReadyRise (s : State) : Host.Outcome State Fault Refusal :=
  s.run fun t => t.busRise

/-- RESPONSE_DEADLINE (R157). -/
def execResponseDeadline (s : State) : Host.Outcome State Fault Refusal :=
  s.run fun t => t.busDeadline

/-- RESPONSE_RECEIVED (R158). -/
def execResponseReceived (bytes : List Byte) (s : State) : Host.Outcome State Fault Refusal :=
  s.run fun t => t.busResponse bytes

/-- PRINTER_STATUS_TIMER (R141). -/
def execPrinterStatusTimer (s : State) : Host.Outcome State Fault Refusal :=
  s.run fun t => t.statusDue

/-- TICKET_HOLD_EXPIRY (R142). -/
def execTicketHoldExpiry (s : State) : Host.Outcome State Fault Refusal :=
  s.run fun t => t.holdExpired

/-- PAYOUT_SENSOR_CONFIRM (R90). -/
def execPayoutSensorConfirm (s : State) : Host.Outcome State Fault Refusal :=
  s.run fun t => t.confirm

/-- PAYOUT_WAIT_EXPIRY (R91). -/
def execPayoutWaitExpiry (s : State) : Host.Outcome State Fault Refusal :=
  s.run fun t => t.waitEnds

/-- WAIT_TIMER_EXPIRY (R175). -/
def execWaitTimerExpiry (s : State) : Host.Outcome State Fault Refusal :=
  s.run fun t => t.waitTimerOut

/-- CLOCK_SECOND (R189). -/
def execClockSecond (s : State) : Host.Outcome State Fault Refusal :=
  s.run fun t => t.tick

/-- DAY_CHANGE (R130, R189): the second of day passes 86,399. -/
def execDayChange (s : State) : Host.Outcome State Fault Refusal :=
  s.run fun t => if t.clk.set ∧ t.clk.second = 86399 then t.wrapDay else t

/-- RECOVERY_EXPIRY_RETRY (R130): at each minute. -/
def execRecoveryExpiryRetry (s : State) : Host.Outcome State Fault Refusal :=
  s.run fun t => if t.minute then t.expiryRetry else t

/-- AUTO_SNAPSHOT_DUE (R182). -/
def execAutoSnapshotDue (s : State) : Host.Outcome State Fault Refusal :=
  s.run fun t => t.autoDue

/-- AUTO_SNAPSHOT_RETRY (R182): at each minute. -/
def execAutoSnapshotRetry (s : State) : Host.Outcome State Fault Refusal :=
  s.run fun t => t.autoRetry

/-- POWER_ON (R193). -/
def execPowerOn (p : PowerOnInputs) (s : State) : Host.Outcome State Fault Refusal :=
  s.run fun t => t.powerOn p

/-- STARTUP_END (R193). -/
def execStartupEnd (warningAsserted : Bool) (s : State) : Host.Outcome State Fault Refusal :=
  s.run fun t => t.startupEnd warningAsserted

/-- POWER_WARNING (R197). -/
def execPowerWarning (s : State) : Host.Outcome State Fault Refusal :=
  s.run fun t => t.powerWarning

/-- QUIESCED_ENTRY (R196). -/
def execQuiescedEntry (s : State) : Host.Outcome State Fault Refusal :=
  s.run fun t => t.quiesce

end Sys2Proof.Machine
end

