-- ==== Sys2Proof/Machine/Dispatch.lean ====
section
/-! DEFINITION. The meaning of every command: one arm per row of the opcode table. -/

namespace Sys2Proof.Machine

def exec (i : Instr) (s : State) : Host.Outcome State Fault Refusal :=
  match i with
  | .status lane tag => Sys2Proof.Machine.execStatus lane tag s
  | .identify lane tag => Sys2Proof.Machine.execIdentify lane tag s
  | .clockSet lane tag day second => Sys2Proof.Machine.execClockSet lane tag day second s
  | .resetWithForce lane tag => Sys2Proof.Machine.execResetWithForce lane tag s
  | .resetWithoutForce lane tag => Sys2Proof.Machine.execResetWithoutForce lane tag s
  | .shutdown lane tag => Sys2Proof.Machine.execShutdown lane tag s
  | .serviceEnter lane tag => Sys2Proof.Machine.execServiceEnter lane tag s
  | .serviceLeave lane tag => Sys2Proof.Machine.execServiceLeave lane tag s
  | .tableWriteProduct lane tag index e => Sys2Proof.Machine.execTableWriteProduct lane tag index e s
  | .tableWriteConcession lane tag index discount kinds => Sys2Proof.Machine.execTableWriteConcession lane tag index discount kinds s
  | .tableWriteBand lane tag index used start stop factor => Sys2Proof.Machine.execTableWriteBand lane tag index used start stop factor s
  | .tableWriteTier lane tag index used threshold rate => Sys2Proof.Machine.execTableWriteTier lane tag index used threshold rate s
  | .tableWriteGlobal lane tag index unit mode bmax mask => Sys2Proof.Machine.execTableWriteGlobal lane tag index unit mode bmax mask s
  | .tableWriteAcceptance lane tag index e => Sys2Proof.Machine.execTableWriteAcceptance lane tag index e s
  | .tableWriteTube lane tag index denom capacity l1 l2 => Sys2Proof.Machine.execTableWriteTube lane tag index denom capacity l1 l2 s
  | .tableWriteCoinLimit lane tag index lc => Sys2Proof.Machine.execTableWriteCoinLimit lane tag index lc s
  | .tableWritePaper lane tag index roll low high => Sys2Proof.Machine.execTableWritePaper lane tag index roll low high s
  | .tableWriteJournal lane tag index watermark wait autoOn auto => Sys2Proof.Machine.execTableWriteJournal lane tag index watermark wait autoOn auto s
  | .tableWriteTimers lane tag index awaitCard inactivity window hold => Sys2Proof.Machine.execTableWriteTimers lane tag index awaitCard inactivity window hold s
  | .tableWriteNoticeModes lane tag index mode => Sys2Proof.Machine.execTableWriteNoticeModes lane tag index mode s
  | .tableRead lane tag table index => Sys2Proof.Machine.execTableRead lane tag table index s
  | .saleOpen lane tag o => Sys2Proof.Machine.execSaleOpen lane tag o s
  | .saleCancel lane tag => Sys2Proof.Machine.execSaleCancel lane tag s
  | .cardRead lane tag => Sys2Proof.Machine.execCardRead lane tag s
  | .laneRestore lane tag => Sys2Proof.Machine.execLaneRestore lane tag s
  | .coinInhibit lane tag denoms => Sys2Proof.Machine.execCoinInhibit lane tag denoms s
  | .coinAuditOn lane tag => Sys2Proof.Machine.execCoinAuditOn lane tag s
  | .coinAuditOff lane tag => Sys2Proof.Machine.execCoinAuditOff lane tag s
  | .tubeRead lane tag => Sys2Proof.Machine.execTubeRead lane tag s
  | .tubeSet lane tag tube count => Sys2Proof.Machine.execTubeSet lane tag tube count s
  | .tubeDump lane tag tube coins => Sys2Proof.Machine.execTubeDump lane tag tube coins s
  | .recoveryList lane tag first n => Sys2Proof.Machine.execRecoveryList lane tag first n s
  | .recoveryDrop lane tag n => Sys2Proof.Machine.execRecoveryDrop lane tag n s
  | .paperLoaded lane tag => Sys2Proof.Machine.execPaperLoaded lane tag s
  | .printText lane tag lines => Sys2Proof.Machine.execPrintText lane tag lines s
  | .printCancel lane tag job => Sys2Proof.Machine.execPrintCancel lane tag job s
  | .printList lane tag => Sys2Proof.Machine.execPrintList lane tag s
  | .busRead lane tag => Sys2Proof.Machine.execBusRead lane tag s
  | .journalRead lane tag offset n => Sys2Proof.Machine.execJournalRead lane tag offset n s
  | .journalRelease lane tag first n => Sys2Proof.Machine.execJournalRelease lane tag first n s
  | .totalsRead lane tag set section_ row => Sys2Proof.Machine.execTotalsRead lane tag set section_ row s
  | .totalsSnapshot lane tag => Sys2Proof.Machine.execTotalsSnapshot lane tag s
  | .unknownRequest lane tag code body => Sys2Proof.Machine.execUnknownRequest lane tag code body s
  | .hostByte byte framingError => Sys2Proof.Machine.execHostByte byte framingError s
  | .receiveTimeout => Sys2Proof.Machine.execReceiveTimeout s
  | .transmitEnd => Sys2Proof.Machine.execTransmitEnd s
  | .coinRecord lane diam thick cond cls good => Sys2Proof.Machine.execCoinRecord lane diam thick cond cls good s
  | .statusRecord lane blocked fault => Sys2Proof.Machine.execStatusRecord lane blocked fault s
  | .headLinkTimeout lane => Sys2Proof.Machine.execHeadLinkTimeout lane s
  | .jamTimerExpiry lane => Sys2Proof.Machine.execJamTimerExpiry lane s
  | .jamClearTimerExpiry lane => Sys2Proof.Machine.execJamClearTimerExpiry lane s
  | .cashboxRemoved => Sys2Proof.Machine.execCashboxRemoved s
  | .cashboxReplaced => Sys2Proof.Machine.execCashboxReplaced s
  | .escrowReleaseEntry lane => Sys2Proof.Machine.execEscrowReleaseEntry lane s
  | .escrowReturnComplete lane => Sys2Proof.Machine.execEscrowReturnComplete lane s
  | .awaitCardTimeout lane => Sys2Proof.Machine.execAwaitCardTimeout lane s
  | .inactivityTimeout lane => Sys2Proof.Machine.execInactivityTimeout lane s
  | .preWriteWindowExpiry lane => Sys2Proof.Machine.execPreWriteWindowExpiry lane s
  | .inDoubtWindowExpiry lane => Sys2Proof.Machine.execInDoubtWindowExpiry lane s
  | .enquiryTimeout lane => Sys2Proof.Machine.execEnquiryTimeout lane s
  | .cardPollTimer lane => Sys2Proof.Machine.execCardPollTimer lane s
  | .requestSent => Sys2Proof.Machine.execRequestSent s
  | .readyLow => Sys2Proof.Machine.execReadyLow s
  | .readyRise => Sys2Proof.Machine.execReadyRise s
  | .responseDeadline => Sys2Proof.Machine.execResponseDeadline s
  | .responseReceived bytes => Sys2Proof.Machine.execResponseReceived bytes s
  | .printerStatusTimer => Sys2Proof.Machine.execPrinterStatusTimer s
  | .ticketHoldExpiry => Sys2Proof.Machine.execTicketHoldExpiry s
  | .payoutSensorConfirm => Sys2Proof.Machine.execPayoutSensorConfirm s
  | .payoutWaitExpiry => Sys2Proof.Machine.execPayoutWaitExpiry s
  | .waitTimerExpiry => Sys2Proof.Machine.execWaitTimerExpiry s
  | .clockSecond => Sys2Proof.Machine.execClockSecond s
  | .dayChange => Sys2Proof.Machine.execDayChange s
  | .recoveryExpiryRetry => Sys2Proof.Machine.execRecoveryExpiryRetry s
  | .autoSnapshotDue => Sys2Proof.Machine.execAutoSnapshotDue s
  | .autoSnapshotRetry => Sys2Proof.Machine.execAutoSnapshotRetry s
  | .powerOn p => Sys2Proof.Machine.execPowerOn p s
  | .startupEnd warningAsserted => Sys2Proof.Machine.execStartupEnd warningAsserted s
  | .powerWarning => Sys2Proof.Machine.execPowerWarning s
  | .quiescedEntry => Sys2Proof.Machine.execQuiescedEntry s

end Sys2Proof.Machine
end

