-- ==== Sys2Proof/Safety.lean ====
section
/-! DEFINITION. What counts as a safe state: the numbered laws that the rules state (Laws 1 to 4, 6 to 8, 10 and 12;
Law 11 holds by the shape of `Dbc.current`) and the bounds of the link's queues. Every predicate is decidable. -/

namespace Sys2Proof.Machine

/-- The first half of Law 1 (R62, R82): no tube has more coins reserved than it holds. -/
abbrev State.law1Reserved (s : State) : Prop := ∀ n ∈ TubeNo.all, s.reserved n ≤ (s.tube n).count

/-- The second half of Law 1 (R62, R81): every used tube has room for the coins bound for it. -/
abbrev State.law1Room (s : State) : Prop :=
  ∀ n ∈ TubeNo.all, (s.tube n).count + (s.tube n).pendingIn ≤ (s.tube n).capacity

/-- Law 2 (R171): stored records and journal reservations never exceed 64. -/
abbrev State.law2 (s : State) : Prop := s.stored + s.held ≤ 64

/-- The serials of the recovery table. -/
def Crt.serials (c : Crt) : List Serial := c.entries.filterMap fun e => e.map CrtEntry.serial

/-- Law 3 (R121): recovery entries and reservations never exceed 16, and no two entries hold one serial. -/
abbrev State.law3 (s : State) : Prop := s.crt.count + s.crt.reservations ≤ 16 ∧ s.crt.serials.Nodup

/-- Law 4 (R134): occupied job slots and ticket reservations never exceed 8. -/
abbrev State.law4 (s : State) : Prop := s.pru.taken ≤ 8

/-- The price that an outcome keeps (R24). -/
def SaleRecord.priceKept (r : SaleRecord) : Nat := if r.outcome.kept then r.price else 0

/-- The balance of Law 6 for one SALE record (R24). -/
abbrev SaleRecord.balanced (r : SaleRecord) : Prop :=
  r.coinsReceived + r.cardDebited = r.priceKept + r.changePaid + r.escrowReturned + r.refundPaid + r.shortfall

/-- Law 6 for a record of any kind. -/
abbrev RecordBody.balanced (b : RecordBody) : Prop :=
  match b with
  | .sale r => r.balanced
  | _ => True

/-- Law 6 (R24): every SALE record in the journal balances. -/
def State.law6 (s : State) : Prop := ∀ r ∈ s.jnu.journal, r.body.balanced

/-- Law 7 (R14): in PAYING the value paid is below the price. -/
abbrev State.law7 (s : State) (l : Lane) : Prop :=
  (s.lane l).state = .paying → ∃ x ∈ (s.lane l).sale, x.coinsReceived < x.price.getD 0

/-- Law 8 (R23, R66): in IDLE, ENQUIRY and RECOVERING the escrow tray is empty. -/
abbrev State.law8 (s : State) (l : Lane) : Prop :=
  (s.lane l).state ∈ [LaneState.idle, .enquiry, .recovering] → (s.coin l).tray = []

/-- A pulse that routes a coin to the cashbox. -/
def Drive.toCashbox : Drive → Bool
  | .gate _ (some .cashbox) => true
  | .route _ .cashbox => true
  | _ => false

/-- Law 10 (R62): no coin is routed to the cashbox while the cashbox is absent, neither by a pulse of the gate or of a tray nor
by the payout diverter, which stands at the cashbox for a dump under way only (R98, R99). -/
abbrev State.law10 (s : State) : Prop :=
  ((∃ d ∈ s.drives, d.toCashbox) → s.ciu.boxPresent = true) ∧
  (s.chu.diverterBox = true → s.ciu.boxPresent = true ∧ s.chu.dump.isSome)

/-- Law 12 (R185): in SERVICE and in QUIESCED no sale is open. -/
abbrev State.law12 (s : State) : Prop := s.part = .service ∨ s.part = .quiesced → s.anySale = false

/-- What keeps Law 2: an open sale holds its journal pair until it closes (R7, R23), and a resolution has a journal hold just
when its entry is DETACHED (R127, R128). -/
structure State.JournalLawful (s : State) : Prop where
  law2 : s.law2
  pairs : ∀ l, ∀ x ∈ (s.lane l).sale, x.journalRes = 2
  holds : ∀ l, ∀ r ∈ (s.session l).res, r.hold = r.detached

/-- What keeps Law 4: until its ticket is queued an open sale for PAPER delivery has its job slot reserved (R134). -/
structure State.SlotsLawful (s : State) : Prop where
  law4 : s.law4
  tickets : ∀ l, (s.lane l).state ∈ [LaneState.awaitCard, .paying] → ∀ x ∈ (s.lane l).sale, x.delivery = .paper →
    s.pru.reserved.get l = true

/-- What one lane's sale and tray are to each other: Laws 7 and 8, and what keeps them. A sale is open in just the six
states of R1; nothing has been paid in AWAIT_CARD; the tray is empty in AWAIT_CARD, in PAYOUT and in PAYING before the first
coin; and a tray is tipped out in REFUNDING only. -/
structure State.LaneLawful (s : State) (l : Lane) : Prop where
  sale : (s.lane l).sale.isSome = (s.lane l).state.selling
  law7 : s.law7 l
  law8 : s.law8 l
  unpaid : (s.lane l).state = .awaitCard → ∀ x ∈ (s.lane l).sale, x.coinsReceived = 0
  emptied : (s.lane l).state ∈ [LaneState.awaitCard, .payout] → (s.coin l).tray = []
  firstCoin : (s.lane l).state = .paying → ∀ x ∈ (s.lane l).sale, x.coinsReceived = 0 → (s.coin l).tray = []
  returning : (s.coin l).trayOp = .returning → (s.lane l).state = .refunding ∧ (s.coin l).tray ≠ []

/-- Both lanes as they should be, with Law 12 and the payout orders: each order belongs to a lane of its own that is in PAYOUT
or REFUNDING with an empty tray (R21, R22, R88), and an acceptance entry that takes coins has a denomination above 0
(R56). -/
structure State.LanesLawful (s : State) : Prop where
  law12 : s.law12
  lanes : ∀ l, s.LaneLawful l
  orders : ∀ o ∈ s.chu.orders, (s.lane o.lane).state ∈ [LaneState.payout, .refunding] ∧ (s.coin o.lane).tray = []
  apart : (s.chu.orders.map Order.lane).Nodup
  values : ∀ e ∈ s.ciu.accept, e.kind ≠ 3 → acceptTarget e ≠ none → 0 < e.denom

/-! ## What keeps Laws 1 and 6 -/

/-- What keeps Law 1. Reserved coins are there in every state; room is asked for in IN_USE and while a sale is open, since in
SERVICE a capacity may be written below a count until SERVICE_LEAVE refuses it (R79, R80, R188). The coins pending for a tube
are the tray entries bound for it (R66, R81); a plan has no empty pair and stands for an open sale only (R82); a dump runs in
SERVICE or SHUTTING_DOWN with no sale open (R98, R196); and a coin is awaited from a tube of the dispensing order's plan (R90),
or for the dump. -/
structure State.TubesLawful (s : State) : Prop where
  reserved : s.law1Reserved
  room : s.part = .inUse ∨ s.anySale = true → s.law1Room
  capacity : ∀ n ∈ TubeNo.all, (s.tube n).capacity ≤ 150
  incoming : ∀ n ∈ TubeNo.all, (s.tube n).pendingIn = bound (s.coin .a).tray n + bound (s.coin .b).tray n
  plans : ∀ l, ∀ x ∈ s.chu.res.get l, 0 < x.2
  unsold : ∀ l, (s.lane l).sale = none → s.chu.res.get l = []
  dumping : s.chu.dump.isSome → (s.part = .service ∨ s.part = .shuttingDown) ∧ s.anySale = false
  awaited : ∀ w ∈ s.chu.wait, s.chu.dump = none →
    ∃ o ∈ s.chu.orders.head?, 0 < planAt (s.chu.res.get o.lane) w.tube

/-- The value of a plan by the tubes' denominations (R84). -/
def State.planValue (s : State) (p : Plan) : Nat := (p.map fun x => x.2 * (s.tube x.1).denom).sum

/-- What an open sale still owes in a lane state: in REFUNDING the committed value, otherwise the change (R20, R22). -/
def Sale.owed (x : Sale) (st : LaneState) : Nat := if st = .refunding then x.committed - x.refundPaid else x.changeOwed

/-- The money of an open sale beside its lane state, its tray and what the CIU does with the tray. Nothing falls short before a
completion report (R21, R22). CARD_VALUE takes no coin (R6); the price is covered from DELIVERING on (R14). Until delivery is
over what has come in is in the tray, committed or returned, and no change is paid; it is over in DELIVERING and PAYOUT only,
and change is paid in PAYOUT only, out of what was paid too much (R20, R21). Coins go back in REFUNDING only, with an outcome
that keeps no price (R22, R24). A release runs after the delivery is over, while the tray has coins (R67). -/
structure Sale.MoneyLawful (x : Sale) (st : LaneState) (tray : List TrayEntry) (op : TrayOp) : Prop where
  shortfall : x.shortfall = 0
  cardValue : x.payment = .cardValue → x.coinsReceived = 0 ∧ st ≠ .paying
  covered : st.delivers = true → x.payment = .coins → x.price.getD 0 ≤ x.coinsReceived
  undelivered : x.delivered = false →
    x.changePaid = 0 ∧ x.coinsReceived = trayValue tray + x.committed + x.escrowReturned
  delivered : x.delivered = true → st = .delivering ∨ st = .payout
  payout : st = .payout → x.delivered = true
  change : (st ≠ .payout → x.changePaid = 0) ∧ x.changePaid ≤ x.coinsReceived - x.price.getD 0
  refunds : (st ≠ .refunding → x.refundPaid = 0 ∧ x.escrowReturned = 0) ∧ x.refundPaid ≤ x.committed
  outcome : ∀ o ∈ x.refundOutcome, o.kept = false
  release : op = .releasing ∨ op = .paused → x.delivered = true ∧ tray ≠ []

/-- The lane state in which a lane's order of a kind stands (R21, R22). -/
def OrderKind.state : OrderKind → LaneState
  | .change => .payout
  | .refund => .refunding

/-- What keeps Law 6: the money of each open sale; no release without a sale; a reservation worth at most what its sale owes,
which stands through PAYOUT only until its first coin and is none in REFUNDING, but for the order at the head of the queue
(R86, R87, R89); and orders that have paid all but what their sale owes, the ones behind the head nothing (R88, R90). -/
structure State.MoneyLawful (s : State) : Prop where
  law6 : s.law6
  sales : ∀ l, ∀ x ∈ (s.lane l).sale, x.MoneyLawful (s.lane l).state (s.coin l).tray (s.coin l).trayOp
  unsold : ∀ l, (s.lane l).sale = none → (s.coin l).trayOp ≠ .releasing ∧ (s.coin l).trayOp ≠ .paused
  plans : ∀ l, ∀ x ∈ (s.lane l).sale, s.planValue (s.chu.res.get l) ≤ x.owed (s.lane l).state
  intact : ∀ l, ∀ x ∈ (s.lane l).sale, s.chu.orders.head?.map Order.lane ≠ some l → s.chu.res.get l ≠ [] →
    (s.lane l).state ≠ .refunding ∧ x.changePaid = 0
  orders : ∀ o ∈ s.chu.orders, ∀ x ∈ (s.lane o.lane).sale, (s.lane o.lane).state = o.kind.state ∧ o.paid ≤ o.amount ∧
    o.amount - o.paid = x.owed (s.lane o.lane).state
  behind : ∀ o ∈ s.chu.orders.tail, o.paid = 0

/-- The bounds of the link's queues: two hold places (R200) and 32 notices (R202), and counts that stay at 255
(R199, R202). -/
structure Lki.Bounded (k : Lki) : Prop where
  hold : k.hold.length ≤ 2
  notices : k.notices.length ≤ 32
  drops : k.dropCount ≤ 255
  lost : k.lostCount ≤ 255

/-- The bounds hold of a state. -/
def State.linkBounded (s : State) : Prop := s.lki.Bounded

/-! ## What stands between commands -/

/-- Idle recovery polling stands as it is called for (R28, R106): wanted, then some purpose or resolution has the session;
not wanted, then an IDLE lane is not left with the IDLE_SCAN purpose. -/
def State.scanSettled (s : State) (l : Lane) : Prop :=
  (s.scanWanted l = true → (s.session l).purpose ≠ .none ∨ (s.session l).res ≠ none) ∧
  (s.scanWanted l = false →
    ¬ ((s.lane l).state = .idle ∧ (s.session l).purpose = .idleScan ∧ (s.session l).res = none))

/-- The retained copy of a lane's sale is the sale, the lane state and the tray as they stand (R26). -/
def State.snapSettled (s : State) (l : Lane) : Prop :=
  (s.lane l).snapshot = (s.lane l).sale.map fun x => ⟨x, (s.lane l).state, (s.coin l).tray⟩

/-- What holds between commands: idle polling and snapshots stand as they should, and the transmitter is idle only with
nothing to send (R201). -/
structure State.Settled (s : State) : Prop where
  scan : ∀ l, s.scanSettled l
  snap : ∀ l, s.snapSettled l
  line : s.lki.tx = none → s.lki.ready = none ∧ s.lki.notices = []

/-- The record sequences of a journal run on without a gap, and the next one to be used follows the last (R169). -/
def sequenced : List Record → Nat → Prop
  | [], _ => True
  | [r], next => next = seqNext r.seq
  | r :: q :: rs, next => q.seq = seqNext r.seq ∧ sequenced (q :: rs) next

/-- The record sequences of the state's journal run on without a gap. -/
def State.recordsSequenced (s : State) : Prop := sequenced s.jnu.journal s.jnu.recSeq

/-- A request waits for the device bus only while an exchange is in progress (R155). -/
def State.busBusy (s : State) : Prop := s.dbc.current = none → s.dbc.noneWaiting = true

/-! ## A request as its owner finds it -/

/-- The state in which a request that came with `lane` and `tag` is taken: outputs cleared, its frame held. -/
def State.taking (s : State) (lane tag : Nat) (r : Request) : State :=
  { s with drives := [], lki := { s.lki with hold := [⟨requestCode r, lane, tag, r⟩] } }

/-- The part takes requests of every kind: it is neither STARTING nor QUIESCED (R185, R200). -/
abbrev State.takesRequests (s : State) : Prop := s.part ≠ .starting ∧ s.part ≠ .quiesced

/-- The reply to a request stands: `t` sends it or has it ready, and holds the request's frame (R200, R201). -/
def State.answered (s t : State) (lane tag : Nat) (r : Request) (c : Status) (body : List Byte) : Prop :=
  t.lki.hold = [⟨requestCode r, lane, tag, r⟩] ∧
  (if s.lki.tx = none then t.lki.tx = some (.reply ⟨requestCode r, lane, tag, c, body⟩)
   else t.lki.tx = s.lki.tx ∧ t.lki.ready = some ⟨requestCode r, lane, tag, c, body⟩)

/-- The reply to a request that has been waiting in service stands: it is on the line, or ready behind what is (R201). -/
def State.replies (s t : State) (h : Held) (c : Status) (body : List Byte) : Prop :=
  t.lki.hold = s.lki.hold ∧
  (if s.lki.tx = none then t.lki.tx = some (.reply ⟨h.code, h.lane, h.tag, c, body⟩)
   else t.lki.tx = s.lki.tx ∧ t.lki.ready = some ⟨h.code, h.lane, h.tag, c, body⟩)

/-- A state with the frame of a request held and its reply given to the transmitter: on the line if it is free, and
ready otherwise (R201). -/
def State.sends (s : State) (lane tag : Nat) (r : Request) (c : Status) (body : List Byte) : State :=
  let x : Reply := ⟨requestCode r, lane, tag, c, body⟩
  let k : Lki := { s.lki with hold := [⟨requestCode r, lane, tag, r⟩] }
  { s with lki := if k.tx = none then { k with tx := some (.reply x) } else { k with ready := some x } }

/-- A state with its outputs cleared, as every command begins. -/
abbrev State.quiet (s : State) : State := { s with drives := [] }

/-- What most events leave: the configured tables, the clock, the part state, the sale sequence, the cashbox and the trays. -/
structure State.keepsSettings (s t : State) : Prop where
  tariff : t.fcu = s.fcu
  accept : t.ciu.accept = s.ciu.accept
  timers : t.timers = s.timers
  clock : t.clk = s.clk
  part : t.part = s.part
  sequence : t.saleSeq = s.saleSeq
  box : t.ciu.boxCoins = s.ciu.boxCoins ∧ t.ciu.boxValue = s.ciu.boxValue ∧ t.ciu.boxPresent = s.ciu.boxPresent
  trays : ∀ l, (t.coin l).tray = (s.coin l).tray

/-- A snapshot of the totals is taken (R180): what `t` keeps, stores and starts again. -/
structure State.snapshotTaken (s t : State) (mode : SnapshotMode) : Prop where
  kept : t.jnu.snapshot = some ⟨s.jnu.totals, s.now, mode⟩
  running : t.jnu.totals = .zero s.now
  retry : t.jnu.retry = none
  record : t.jnu.journal = s.jnu.journal ++
    [⟨s.jnu.recSeq, s.jnu.lost, s.now, .snapshot (s.jnu.totals.record mode s.now)⟩]
  rest : t = { s.quiet with jnu := t.jnu, lki := t.lki }

/-- What SERVICE entry does besides the part state: coin audit goes off (R71), the QUEUED receipts leave their slots (R140) and
the deferral-reported flags are cleared (R121). -/
structure State.serviceEntered (s t : State) : Prop where
  audits : ∀ l, t.coin l = { s.coin l with audit := false }
  receipts : t.pru.jobs = s.pru.jobs.filter fun j =>
    ¬ (∃ k ∈ s.pru.jobs, k.id = j.id ∧ k.kind = .receipt ∧ k.printing = false)
  flags : ∀ n, t.crt.entry n = (s.crt.entry n).map CrtEntry.unreported

/-! ## What a command carries -/

/-- What a command carries to the link interface: the frame's lane and tag bytes, and the request. -/
structure Carriage where
  lane : Nat
  tag : Nat
  req : Request
  deriving DecidableEq, Repr

/-- The request that a command carries; an event, and a frame given by its code and body, carry none. -/
def carriage : Instr → Option Carriage
  | .status lane tag => some ⟨lane, tag, .status⟩
  | .identify lane tag => some ⟨lane, tag, .identify⟩
  | .clockSet lane tag day second => some ⟨lane, tag, .clockSet day second⟩
  | .resetWithForce lane tag => some ⟨lane, tag, .reset 1⟩
  | .resetWithoutForce lane tag => some ⟨lane, tag, .reset 0⟩
  | .shutdown lane tag => some ⟨lane, tag, .shutdown⟩
  | .serviceEnter lane tag => some ⟨lane, tag, .serviceEnter⟩
  | .serviceLeave lane tag => some ⟨lane, tag, .serviceLeave⟩
  | .tableWriteProduct lane tag index e => some ⟨lane, tag, .tableWrite index (.product e)⟩
  | .tableWriteConcession lane tag index discount kinds =>
    some ⟨lane, tag, .tableWrite index (.concession discount kinds)⟩
  | .tableWriteBand lane tag index used start stop factor =>
    some ⟨lane, tag, .tableWrite index (.band used start stop factor)⟩
  | .tableWriteTier lane tag index used threshold rate =>
    some ⟨lane, tag, .tableWrite index (.tier used threshold rate)⟩
  | .tableWriteGlobal lane tag index unit mode bmax mask =>
    some ⟨lane, tag, .tableWrite index (.global unit mode bmax mask)⟩
  | .tableWriteAcceptance lane tag index e => some ⟨lane, tag, .tableWrite index (.acceptance e)⟩
  | .tableWriteTube lane tag index denom capacity l1 l2 =>
    some ⟨lane, tag, .tableWrite index (.tube denom capacity l1 l2)⟩
  | .tableWriteCoinLimit lane tag index lc => some ⟨lane, tag, .tableWrite index (.coinLimit lc)⟩
  | .tableWritePaper lane tag index roll low high => some ⟨lane, tag, .tableWrite index (.paper roll low high)⟩
  | .tableWriteJournal lane tag index watermark wait autoOn auto =>
    some ⟨lane, tag, .tableWrite index (.journal watermark wait autoOn auto)⟩
  | .tableWriteTimers lane tag index awaitCard inactivity window hold =>
    some ⟨lane, tag, .tableWrite index (.timers awaitCard inactivity window hold)⟩
  | .tableWriteNoticeModes lane tag index mode => some ⟨lane, tag, .tableWrite index (.noticeMode mode)⟩
  | .tableRead lane tag table index => some ⟨lane, tag, .tableRead table index⟩
  | .saleOpen lane tag o => some ⟨lane, tag, .saleOpen o⟩
  | .saleCancel lane tag => some ⟨lane, tag, .saleCancel⟩
  | .cardRead lane tag => some ⟨lane, tag, .cardRead⟩
  | .laneRestore lane tag => some ⟨lane, tag, .laneRestore⟩
  | .coinInhibit lane tag denoms => some ⟨lane, tag, .coinInhibit denoms⟩
  | .coinAuditOn lane tag => some ⟨lane, tag, .coinAudit 1⟩
  | .coinAuditOff lane tag => some ⟨lane, tag, .coinAudit 0⟩
  | .tubeRead lane tag => some ⟨lane, tag, .tubeRead⟩
  | .tubeSet lane tag tube count => some ⟨lane, tag, .tubeSet tube count⟩
  | .tubeDump lane tag tube coins => some ⟨lane, tag, .tubeDump tube coins⟩
  | .recoveryList lane tag first n => some ⟨lane, tag, .recoveryList first n⟩
  | .recoveryDrop lane tag n => some ⟨lane, tag, .recoveryDrop n⟩
  | .paperLoaded lane tag => some ⟨lane, tag, .paperLoaded⟩
  | .printText lane tag lines => some ⟨lane, tag, .printText lines⟩
  | .printCancel lane tag job => some ⟨lane, tag, .printCancel job⟩
  | .printList lane tag => some ⟨lane, tag, .printList⟩
  | .busRead lane tag => some ⟨lane, tag, .busRead⟩
  | .journalRead lane tag offset n => some ⟨lane, tag, .journalRead offset n⟩
  | .journalRelease lane tag first n => some ⟨lane, tag, .journalRelease first n⟩
  | .totalsRead lane tag set section_ row => some ⟨lane, tag, .totalsRead set section_ row⟩
  | .totalsSnapshot lane tag => some ⟨lane, tag, .totalsSnapshot⟩
  | .unknownRequest _ _ _ _ => none
  | .hostByte _ _ => none
  | .receiveTimeout => none
  | .transmitEnd => none
  | .coinRecord _ _ _ _ _ _ => none
  | .statusRecord _ _ _ => none
  | .headLinkTimeout _ => none
  | .jamTimerExpiry _ => none
  | .jamClearTimerExpiry _ => none
  | .cashboxRemoved => none
  | .cashboxReplaced => none
  | .escrowReleaseEntry _ => none
  | .escrowReturnComplete _ => none
  | .awaitCardTimeout _ => none
  | .inactivityTimeout _ => none
  | .preWriteWindowExpiry _ => none
  | .inDoubtWindowExpiry _ => none
  | .enquiryTimeout _ => none
  | .cardPollTimer _ => none
  | .requestSent => none
  | .readyLow => none
  | .readyRise => none
  | .responseDeadline => none
  | .responseReceived _ => none
  | .printerStatusTimer => none
  | .ticketHoldExpiry => none
  | .payoutSensorConfirm => none
  | .payoutWaitExpiry => none
  | .waitTimerExpiry => none
  | .clockSecond => none
  | .dayChange => none
  | .recoveryExpiryRetry => none
  | .autoSnapshotDue => none
  | .autoSnapshotRetry => none
  | .powerOn _ => none
  | .startupEnd _ => none
  | .powerWarning => none
  | .quiescedEntry => none

/-! ## A sale and its end -/

/-- What checks 1 to 8 of SALE_OPEN test of the part, the lane and the operands (R6). -/
structure State.Admits (s : State) (l : Lane) (o : SaleOperands) (p : Product) : Prop where
  coded : operandsCoded o = true
  inUse : s.part = .inUse
  idle : (s.lane l).state = .idle
  unaudited : (s.coin l).audit = false
  product : s.fcu.find o.product = some p
  combines : combines p.kind (Delivery.ofCode o.delivery) (Payment.ofCode o.payment) = true
  inRange : s.fcu.inRange p o.zones o.quantity o.concession o.topup = true
  level : (s.level l).permits (Delivery.ofCode o.delivery) (Payment.ofCode o.payment) = true
  clock : s.clk.set = true
  journal : s.stored + s.held + 2 ≤ 60
  printer : Delivery.ofCode o.delivery = .paper → s.pru.canReserve = true
  recovery : Delivery.ofCode o.delivery = .card → s.crt.count + s.crt.reservations < 16

/-- The SALE record that `t` stores after the records of `s` (R25, R168). -/
def State.saleRecordStored (s t : State) (l : Lane) (x : Sale) (out : SaleOutcome) : Prop :=
  t.jnu.journal = s.jnu.journal ++ [⟨s.jnu.recSeq, s.jnu.lost, s.now, .sale (x.record l s.now out)⟩]

/-- A sale has closed at once (R23): its lane is IDLE with no sale, timer or snapshot, its reservations are given back, and
its SALE record is stored; the other lane's context, the tables and the trays are as they were. -/
structure State.ClosedAtOnce (s t : State) (l : Lane) (x : Sale) (out : SaleOutcome) : Prop where
  lane : t.lane l = { s.lane l with state := .idle, timer := none, sale := none, snapshot := none }
  other : t.lane l.other = s.lane l.other
  record : s.saleRecordStored t l x out
  totals : t.jnu.totals = s.jnu.totals.addSale (x.record l s.now out)
  image : (t.session l).priced = none
  tubes : t.chu.res = s.chu.res.set l []
  ticket : t.pru.reserved = s.pru.reserved.set l false
  recovery : t.crt.reserved = s.crt.reserved.set l false
  jobs : t.pru.jobs = s.pru.jobs
  entries : t.crt.entries = s.crt.entries
  counts : ∀ n, (t.tube n).count = (s.tube n).count
  rest : t.part = s.part ∧ t.clk = s.clk ∧ t.fcu = s.fcu ∧ t.timers = s.timers ∧ t.saleSeq = s.saleSeq ∧ t.ciu = s.ciu ∧
    t.chu.orders = s.chu.orders

/-- A lane is in REFUNDING with its coins being tipped out (R22, R69): the sale stays open with its outcome noted, the
return flap is driven, and the reservation for change is given back. -/
structure State.RefundBegun (s t : State) (l : Lane) (x : Sale) (out : SaleOutcome) : Prop where
  state : (t.lane l).state = .refunding
  timer : (t.lane l).timer = none
  faults : (t.lane l).cardFault = (s.lane l).cardFault ∧ (t.lane l).coinFault = (s.lane l).coinFault
  sale : (t.lane l).sale = some { x with refundOutcome := some out, waitKind := none }
  other : t.lane l.other = s.lane l.other
  tray : t.coin l = { s.coin l with trayOp := .returning }
  otherTray : t.coin l.other = s.coin l.other
  flap : Drive.returnFlap l ∈ t.drives
  tubes : t.chu.res = s.chu.res.set l []
  counts : ∀ n, (t.tube n).count = (s.tube n).count ∧ (t.tube n).pendingIn = (s.tube n).pendingIn
  rest : t.part = s.part ∧ t.clk = s.clk ∧ t.fcu = s.fcu ∧ t.timers = s.timers ∧ t.saleSeq = s.saleSeq ∧ t.jnu = s.jnu ∧
    t.pru = s.pru ∧ t.crt.entries = s.crt.entries ∧ t.chu.orders = s.chu.orders

/-! ## Retained memory at power-on -/

/-- What no section carries, as power-on leaves it: the part, the clock, the link, the sessions and the bus start anew, and so
do the reservations, the claims, the dump and the printer (R193 steps 2 and 3). -/
structure State.StartsAnew (t : State) : Prop where
  part : t.part = .starting ∧ t.clk = ⟨false, 0, 0, false⟩ ∧ t.warned = false ∧ t.warnHeld = false ∧ t.resetPending = false
  link : t.lki.hold = [] ∧ t.lki.receiver = none ∧ t.lki.dropCount = 0
  sessions : t.cdu = ⟨.start, .start⟩ ∧ t.restore = none
  bus : t.dbc = State.reset.dbc
  recovery : t.crt.reserved = ⟨false, false⟩ ∧ t.crt.claims = ⟨none, none⟩
  tubes : t.chu.dump = none ∧ t.chu.diverterBox = false
  printer : t.pru.reserved = ⟨false, false⟩ ∧ t.pru.printer = .offline ∧ t.pru.paper = none ∧ t.pru.cover = none ∧
    t.pru.hold = .running ∧ t.pru.use = some .status ∧ t.pru.statusWanted = false ∧
    t.pru.paperLow = decide (t.pru.linesRemaining ≤ t.pru.lowDeclare)
  journal : t.jnu.waitTimer = .stopped ∧ t.jnu.retry = none

/-- The PARAMETERS section as power-on leaves it: its defaults where it is bad, and as it stood where it is good (R191,
R192). TABLES_CLEARED, which two more sections set, stands apart. -/
structure State.ParametersChecked (s t : State) (bad : Bool) : Prop where
  tubes : ∀ n, (t.tube n).denom = (if bad then 0 else (s.tube n).denom) ∧
    (t.tube n).capacity = (if bad then 150 else (s.tube n).capacity) ∧
    (t.tube n).l1 = (if bad then 0 else (s.tube n).l1) ∧ (t.tube n).l2 = (if bad then 1 else (s.tube n).l2)
  coinLimit : t.chu.coinLimit = if bad then 15 else s.chu.coinLimit
  timers : t.timers = if bad then .default else s.timers
  modes : t.lki.modes = if bad then modesDefault else s.lki.modes
  paper : t.pru.rollLines = (if bad then 4000 else s.pru.rollLines) ∧
    t.pru.lowDeclare = (if bad then 200 else s.pru.lowDeclare) ∧ t.pru.lowClear = (if bad then 400 else s.pru.lowClear)
  journal : t.jnu.watermark = (if bad then 48 else s.jnu.watermark) ∧ t.jnu.inForce = t.jnu.watermark ∧
    t.jnu.waitTime = (if bad then 300 else s.jnu.waitTime) ∧ t.jnu.autoTime = if bad then none else s.jnu.autoTime

/-- The FINANCIAL section found bad (R192): everything in it is at zero or empty, and FINANCIAL_LOST is set. -/
structure State.FinancialCleared (t : State) : Prop where
  counts : ∀ n, (t.tube n).count = 0 ∧ (t.tube n).pendingIn = 0
  box : t.ciu.boxCoins = [] ∧ t.ciu.boxValue = 0
  paper : t.pru.linesRemaining = 0
  journal : t.jnu.journal = [] ∧ t.jnu.recSeq = 1 ∧ t.jnu.incomplete = false ∧ t.jnu.lost = 0
  totals : t.jnu.totals = .zero none ∧ t.jnu.snapshot = none ∧ t.jnu.lastAutoDay = none
  sequence : t.saleSeq = 0
  entries : t.crt.entries = List.replicate 16 none
  sales : t.lanes = ⟨.start, .start⟩ ∧ t.ciu.lanes = ⟨.start, .start⟩ ∧ t.chu.res = ⟨[], []⟩ ∧ t.chu.orders = [] ∧
    t.chu.wait = none
  notes : t.pru.notes = [] ∧ t.pru.jobs = []
  lost : t.financialLost = true

/-- The journal reservations that the snapshot of a lane holds. -/
def LaneCtx.snapRes (c : LaneCtx) : Nat := (c.snapshot.map fun x => x.sale.journalRes).getD 0

/-- The cashbox stands open at power-on with something recorded in it (R75). -/
abbrev State.foundRemoved (s : State) (closed : Bool) : Prop := closed = false ∧ s.ciu.boxCoins ≠ []

/-- The CASHBOX record of an open cashbox has a place in the journal (R172), behind the pending notes. -/
abbrev State.boxAdmitted (s : State) : Prop :=
  s.jnu.journal.length + s.pru.notes.length + (s.lane .a).snapRes + (s.lane .b).snapRes < 64

/-- The records that power-on stores before any sale closes: the pending notes UNPRINTED (R148), and then the contents of an
open cashbox where they are admitted (R75), in the order of log entry 50. -/
def State.startBodies (s : State) (closed : Bool) : List RecordBody :=
  s.pru.notes.map (fun n => .note n.lane n.seq n.shortfall false none none) ++
  if s.foundRemoved closed ∧ s.boxAdmitted then [.cashbox s.ciu.boxCoins s.ciu.boxValue none true] else []

/-- Whether an entry is still ATTACHED, whether its deferral has been reported, and whether its expiry waits apart. -/
def CrtEntry.kept (e : CrtEntry) : CrtEntry := { e with attached := false, deferralReported := false, expiryPending := false }

/-- A retained snapshot has its sale released at start-up: its delivery is verified, bound for CLOSED_IN_DOUBT, or in doubt
over an ATTACHED entry (R194). -/
abbrev Snapshot.released (x : Snapshot) : Prop :=
  (x.sale.entryAttached = true ∨ x.sale.bound = true ∨ x.sale.verified = true) ∧ x.state.delivers = true

/-- The sale of a snapshot whose tray holds coins, as start-up begins to close it (R194). -/
structure State.SnapshotCloses (s t : State) (l : Lane) (x : Snapshot) : Prop where
  released : x.released → x.tray ≠ [] → x.state ≠ .payout → (t.lane l).state = .delivering ∧
    (t.coin l).trayOp = .releasing ∧ (t.lane l).sale = some { x.sale with
      ticketSlot := false, recoveryRes := false, bound := x.sale.bound || x.sale.entryAttached, entryAttached := false
      waitKind := none }
  closed : (x.state = .awaitCard ∨ x.state = .paying ∧ x.sale.coinsReceived = 0) → (t.lane l).state = .idle ∧
    (t.lane l).sale = none ∧ .sale (x.sale.record l none .interrupted) ∈ t.jnu.journal.map Record.body
  returned : ¬ x.released → x.tray ≠ [] → ¬ (x.state = .awaitCard ∨ x.state = .paying ∧ x.sale.coinsReceived = 0) →
    (t.lane l).state = .refunding ∧ (t.coin l).trayOp = .returning ∧ (t.lane l).sale = some { x.sale with
      ticketSlot := false, recoveryRes := false, refundOutcome := some .interrupted, waitKind := none }

/-- The FINANCIAL section found good (R192), with what the steps of start-up that follow do to it: the tray of each snapshot
stands, an open cashbox is recorded and emptied, pending notes are recorded, no entry stays ATTACHED or carries a flag, and
the sales of the snapshots are closed, which alone adds to the journal and the totals beyond that. -/
structure State.FinancialKept (s t : State) (closed : Bool) : Prop where
  counts : ∀ n, (t.tube n).count = (s.tube n).count ∧
    (t.tube n).pendingIn = bound (s.lane .a).snapTray n + bound (s.lane .b).snapTray n
  box : t.ciu.boxCoins = (if closed = true then s.ciu.boxCoins else []) ∧
    t.ciu.boxValue = if s.foundRemoved closed then 0 else s.ciu.boxValue
  paper : t.pru.linesRemaining = s.pru.linesRemaining
  journal : s.jnu.journal <+: t.jnu.journal ∧
    s.jnu.journal.map Record.body ++ s.startBodies closed <+: t.jnu.journal.map Record.body
  totals : t.jnu.totals.start = s.jnu.totals.start ∧ t.jnu.totals.rows = s.jnu.totals.rows ∧
    t.jnu.totals.otherCounts = s.jnu.totals.otherCounts ∧ t.jnu.totals.otherValues = s.jnu.totals.otherValues ∧
    t.jnu.totals.credit = s.jnu.totals.credit ∧ t.jnu.totals.returns = s.jnu.totals.returns ∧
    t.jnu.snapshot = s.jnu.snapshot ∧ t.jnu.lastAutoDay = s.jnu.lastAutoDay
  sequence : t.saleSeq = s.saleSeq
  entries : (t.crt.entries.map fun e => e.map CrtEntry.kept) = s.crt.entries.map fun e => e.map CrtEntry.kept
  detached : ((s.lane .a).snapshot = none ∨ ∃ x, (s.lane .a).snapshot = some x ∧ x.state.delivers = true) →
    ((s.lane .b).snapshot = none ∨ ∃ x, (s.lane .b).snapshot = some x ∧ x.state.delivers = true) →
    t.crt.entries = s.crt.entries.map fun e => e.map CrtEntry.kept
  trays : ∀ l, t.coin l = { CoinLane.start with tray := (s.lane l).snapTray, trayOp := (t.coin l).trayOp }
  sales : ∀ l x, (s.lane l).snapshot = some x → s.SnapshotCloses t l x
  noSale : ∀ l, (s.lane l).snapshot = none → t.lane l = .start ∧ t.coin l = .start
  noSales : (∀ l, (s.lane l).snapshot = none) →
    t.jnu.journal.map Record.body = s.jnu.journal.map Record.body ++ s.startBodies closed ∧
    t.jnu.totals = s.jnu.totals ∧ t.pru.notes = [] ∧ t.pru.jobs = [] ∧ t.chu.res = ⟨[], []⟩ ∧ t.chu.orders = [] ∧
    t.chu.wait = none ∧
    t.jnu.recSeq = Nat.iterate seqNext (s.startBodies closed).length s.jnu.recSeq ∧
    (s.startBodies closed = [] → ¬ s.foundRemoved closed →
      t.jnu.incomplete = s.jnu.incomplete ∧ t.jnu.lost = s.jnu.lost) ∧
    (s.startBodies closed ≠ [] → ¬ (s.foundRemoved closed ∧ ¬ s.boxAdmitted) →
      t.jnu.incomplete = false ∧ t.jnu.lost = 0) ∧
    (s.foundRemoved closed → ¬ s.boxAdmitted →
      t.jnu.incomplete = true ∧ t.jnu.lost = bump255 (if s.pru.notes = [] then s.jnu.lost else 0))
  lost : t.financialLost = s.financialLost

/-! ## Responses on the device bus -/

/-- The response to a lane's exchange has been clocked in and is judged `r`; its result is wanted, and no LANE_RESTORE check
stands before or behind it (R154, R158). -/
structure State.FrontEndAnswers (s : State) (l : Lane) (u : CardUse) (bytes : List Byte) (r : Response) : Prop where
  settled : s.Settled
  exchange : ∃ e ∈ s.dbc.current, e.dev = Dev.ofLane l ∧ e.phase = .receiving ∧ e.req.judge bytes = some r
  use : (s.session l).use = some u
  taken : (s.session l).discard = false
  alone : (s.session l).restoreWaiting = false ∧ (s.session l).behind = none

/-- The lane's next exchange has been asked for: it is under way, or waits at the device bus (R154, R155). -/
abbrev State.asksCard (t : State) (l : Lane) (u : CardUse) (r : BusReq) : Prop :=
  (t.session l).use = some u ∧
  ((∃ e ∈ t.dbc.current, e.dev = Dev.ofLane l ∧ e.req = r ∧ e.phase = .sending) ∨
    t.dbc.waiting.get (Dev.ofLane l) = some r)

/-- What a card exchange leaves that concerns its own session alone: nothing but that session, the device bus and its select
lines have changed. -/
def State.sessionOnly (s t : State) (l : Lane) : Prop :=
  t = { s with cdu := t.cdu, dbc := t.dbc, drives := t.drives } ∧ t.session l.other = s.session l.other

/-- What a card exchange leaves of everything that is no card matter: the tubes, the printer, the journal and the other lane. -/
structure State.cardOnly (s t : State) (l : Lane) : Prop where
  settings : s.keepsSettings t
  tubes : ∀ n, (t.tube n).count = (s.tube n).count ∧ (t.tube n).pendingIn = (s.tube n).pendingIn
  printer : t.pru = s.pru
  journal : t.jnu.journal = s.jnu.journal
  other : t.lane l.other = s.lane l.other

/-- The response to the printer's exchange has been clocked in and carries its paper and cover states (R138, R158). -/
structure State.PrinterAnswers (s : State) (u : PrintUse) (bytes : List Byte) (p : Paper) (c : Cover) : Prop where
  settled : s.Settled
  open_ : s.part ≠ .quiesced
  exchange : ∃ e ∈ s.dbc.current, e.dev = .printer ∧ e.phase = .receiving ∧ e.req.judge bytes = some (.paper p c)
  use : s.pru.use = some u

/-- The printer's next exchange has been asked for. -/
abbrev State.asksPrinter (t : State) (u : PrintUse) (r : BusReq) : Prop :=
  t.pru.use = some u ∧
  ((∃ e ∈ t.dbc.current, e.dev = .printer ∧ e.req = r ∧ e.phase = .sending) ∨ t.dbc.waiting.get .printer = some r)

/-- The record that `t` stores first after the records of `s`. -/
def State.recordStored (s t : State) (b : RecordBody) : Prop :=
  s.jnu.journal ++ [⟨s.jnu.recSeq, s.jnu.lost, s.now, b⟩] <+: t.jnu.journal

/-- The delivery of a sale has been verified by its card, and its tray is being released (R18 to R20): the sale holds no entry
any more. -/
structure State.ReleaseBegun (s t : State) (l : Lane) (x : Sale) : Prop where
  state : (t.lane l).state = .delivering
  timer : (t.lane l).timer = none
  sale : (t.lane l).sale = some { x with waitKind := none }
  tray : t.coin l = { s.coin l with trayOp := .releasing, released := 0 }
  other : t.lane l.other = s.lane l.other

/-- A sale has closed with its escrow kept (R20, R23): COMPLETED, or CLOSED_IN_DOUBT where it is bound for it. -/
abbrev State.closesKept (s t : State) (l : Lane) (x : Sale) : Prop :=
  (t.lane l).state = .idle ∧ (t.lane l).sale = none ∧ s.recordStored t (.sale (x.record l s.now x.keptOutcome)) ∧
  t.lane l.other = s.lane l.other

/-- A delivery has been verified or bound by its card (R18 to R20): the tray is released, or the sale, its tray empty and no
change owed, closes at once. -/
structure State.Delivered (s t : State) (l : Lane) (x : Sale) : Prop where
  released : (s.coin l).tray ≠ [] → s.ReleaseBegun t l x
  closed : (s.coin l).tray = [] → x.changeOwed = 0 → x.shortfall = 0 → s.closesKept t l x

/-- A delivery has failed (R16, R18, R22): the tray is tipped out, or the sale, its tray empty and no committed value owed,
closes DELIVERY_FAILED at once. -/
structure State.DeliveryFails (s t : State) (l : Lane) (x : Sale) : Prop where
  begun : (s.coin l).tray ≠ [] → (t.lane l).state = .refunding ∧
    (t.lane l).sale = some { x with refundOutcome := some .deliveryFailed, waitKind := none } ∧
    t.coin l = { s.coin l with trayOp := .returning } ∧ Drive.returnFlap l ∈ t.drives
  closed : (s.coin l).tray = [] → x.committed ≤ x.refundPaid → x.shortfall = 0 → (t.lane l).state = .idle ∧
    (t.lane l).sale = none ∧ s.recordStored t (.sale (x.record l s.now .deliveryFailed))
  other : t.lane l.other = s.lane l.other

/-- The lane waits for its card with a kind, its timer at the card window (R17, R18). -/
structure State.WaitBegun (s t : State) (l : Lane) (x : Sale) (k : WaitKind) : Prop where
  state : (t.lane l).state = .cardWait
  timer : (t.lane l).timer = some s.timers.window
  sale : (t.lane l).sale = some { x with waitKind := some k }

end Sys2Proof.Machine
end

