-- ==== Sys2Proof/Certificates/Slice0/Obligations.lean ====
section
/-! DEFINITION. The statements for the provers, in the order of OBLIGATIONS.json. Where a statement names `settle` it
means what the end of every command does (R26, R28, R201); a state that is `Settled` shows only the transmitter move. -/

open Sys2Proof Sys2Proof.Machine

/-! ## The step and the queue -/

/-- Step runs the command at the front of the queue on the state with the queue's rest. -/
def Obligations.StepRunsTheFrontCommand : Prop :=
  ∀ (s : State) (c : Instr) (rest : List Instr), s.pending = c :: rest → step s = exec c { s with pending := rest }

/-- The commands that may carry or bring into service a TABLE_WRITE, and POWER_ON. -/
def mayWriteTables : Instr → Bool
  | .tableWriteProduct .. | .tableWriteConcession .. | .tableWriteBand .. | .tableWriteTier .. | .tableWriteGlobal ..
  | .tableWriteAcceptance .. | .tableWriteTube .. | .tableWriteCoinLimit .. | .tableWritePaper ..
  | .tableWriteJournal .. | .tableWriteTimers .. | .tableWriteNoticeModes .. | .unknownRequest .. | .hostByte ..
  | .transmitEnd | .powerOn _ => true
  | _ => false

/-- The commands that may move the clock: a request, by itself or as the bytes that bring it, the clock's own events, and
POWER_ON. -/
def mayMoveClock : Instr → Bool
  | .clockSet .. | .unknownRequest .. | .hostByte .. | .transmitEnd | .clockSecond | .dayChange | .powerOn _ => true
  | _ => false

/-- Every command ends in a next state, whatever stood before, and leaves the queue as it is. Only a TABLE_WRITE or a
power-on changes the configured tables, and only a CLOCK_SET, the clock's own events or a power-on move the clock. -/
def Obligations.EveryCommandKeepsQueueTablesAndClock : Prop :=
  ∀ (c : Instr) (s : State), ∃ t, exec c s = .next t ∧ t.pending = s.pending ∧
    (mayWriteTables c = false → t.fcu = s.fcu ∧ t.ciu.accept = s.ciu.accept ∧ t.timers = s.timers ∧
      t.chu.coinLimit = s.chu.coinLimit ∧ t.lki.modes = s.lki.modes ∧ t.pru.rollLines = s.pru.rollLines ∧
      t.pru.lowDeclare = s.pru.lowDeclare ∧ t.pru.lowClear = s.pru.lowClear ∧ t.jnu.watermark = s.jnu.watermark ∧
      t.jnu.waitTime = s.jnu.waitTime ∧ t.jnu.autoTime = s.jnu.autoTime ∧
      ∀ n, (t.tube n).denom = (s.tube n).denom ∧ (t.tube n).capacity = (s.tube n).capacity ∧
        (t.tube n).l1 = (s.tube n).l1 ∧ (t.tube n).l2 = (s.tube n).l2) ∧
    (mayMoveClock c = false → t.clk = s.clk)

/-! ## Invariants that every step keeps -/

/-- Between commands idle recovery polling, the retained copies of the sales and the transmitter stand as R28, R26 and R201
have them. -/
def Obligations.StepKeepsSettled : Prop :=
  ∀ s t : State, s.Settled → step s = .next t → t.Settled

/-- Law 10: no step routes a coin to the cashbox while the cashbox is absent: not by the gate, not from the tray, and not from
a tube by the payout diverter, which stands at the cashbox only for a dump under way and with the cashbox present. -/
def Obligations.StepKeepsLaw10 : Prop :=
  ∀ s t : State, s.law10 → step s = .next t → t.law10

/-- The hold has two places and the notice queue 32, and the lost and drop counts stay at 255; the record sequences of the
journal run on without a gap; and a request waits for the device bus only while an exchange is in progress. -/
def Obligations.StepKeepsQueuesAndSequences : Prop :=
  (∀ s t : State, s.linkBounded → step s = .next t → t.linkBounded) ∧
  (∀ s t : State, s.recordsSequenced → step s = .next t → t.recordsSequenced) ∧
  (∀ s t : State, s.busBusy → step s = .next t → t.busBusy)

/-- Law 1: no tube has more coins reserved than it holds, and while the part is IN_USE or a sale is open every tube has room for
the coins bound for it. With it goes what keeps it: the coins pending for a tube are the tray entries bound for it, a plan
stands for an open sale only, a dump runs with no sale open, and a coin is awaited from a tube of the dispensing plan. The
retained copies of the sales stand as the sales do, and the lanes as Laws 7, 8 and 12 have them. -/
def Obligations.StepKeepsLaw1 : Prop :=
  ∀ s t : State, s.Settled → s.LanesLawful → s.TubesLawful → step s = .next t → t.TubesLawful

/-- Law 2: the records stored and the journal reservations held never exceed 64. With it goes what keeps it: an open sale
holds its pair until it closes, and a resolution has a hold just when its entry is DETACHED. The retained copies of the
sales stand as the sales do. -/
def Obligations.StepKeepsLaw2 : Prop :=
  ∀ s t : State, s.Settled → s.JournalLawful → step s = .next t → t.JournalLawful

/-- Law 3: recovery entries and reservations never exceed 16, and no two entries hold one serial. Law 4: occupied job slots
and ticket reservations never exceed 8, where an open sale for PAPER delivery keeps its slot reserved until its ticket is
queued. -/
def Obligations.StepKeepsLaws3And4 : Prop :=
  (∀ s t : State, s.law3 → step s = .next t → t.law3) ∧
  (∀ s t : State, s.SlotsLawful → step s = .next t → t.SlotsLawful)

/-- Laws 7, 8 and 12, with what keeps them: a lane has a sale in just the six states of R1, in PAYING less than the price has
been paid, outside a sale the tray is empty, each payout order has a lane in PAYOUT or REFUNDING to itself, and in SERVICE
and QUIESCED no sale is open. The retained copies of the sales stand as the sales do. -/
def Obligations.StepKeepsLaws7And8And12 : Prop :=
  ∀ s t : State, s.Settled → s.LanesLawful → step s = .next t → t.LanesLawful

/-- Law 6: every SALE record in the journal balances. With it goes what keeps it: for each open sale the money that came in
against its tray, its change and its refunds, a reservation worth at most what the sale owes, and payout orders that have paid
all but what their sale owes. The retained copies of the sales, the lanes and the tubes stand as the invariants above have
them. -/
def Obligations.StepKeepsLaw6 : Prop :=
  ∀ s t : State, s.Settled → s.LanesLawful → s.TubesLawful → s.MoneyLawful → step s = .next t → t.MoneyLawful

/-- The reset state, which is the model's choice (log entry 1), meets every invariant above and the numbered laws. -/
def Obligations.ResetMeetsTheInvariants : Prop :=
  State.reset.Settled ∧ State.reset.law10 ∧ State.reset.linkBounded ∧ State.reset.recordsSequenced ∧
  State.reset.busBusy ∧ State.reset.law1Room ∧ State.reset.TubesLawful ∧ State.reset.JournalLawful ∧
  State.reset.law3 ∧ State.reset.SlotsLawful ∧ State.reset.LanesLawful ∧ State.reset.MoneyLawful

/-! ## Power-on and start-up -/

/-- Power-on sets each bad section to its defaults and keeps each good one, field by field; the clock is UNSET, the part is
STARTING, and the link, the bus and both card sessions start anew. What a good FINANCIAL section keeps goes on through start-up:
the sales of its snapshots are closed, with their trays released or returned and their entries DETACHED, its pending notes are
recorded UNPRINTED and an open cashbox FOUND_REMOVED, in an order that is the model's choice (log entry 50). With all four sections bad it
leaves one state, whatever stood before: the reset state, whose cashbox switch is the model's choice (log entries 1 and 2), as is it that a bad FINANCIAL section leaves no last
automatic day (log entry 67). -/
def Obligations.PowerOnChecksTheSections : Prop :=
  (∀ s : State, exec (.powerOn ⟨true, true, true, true, true⟩) s =
    .next { State.reset with pending := s.pending, freeCount := s.freeCount }) ∧
  ∀ (s : State) (p : PowerOnInputs), ∃ t, exec (.powerOn p) s = .next t ∧ t.StartsAnew ∧
    t.ciu.boxPresent = p.cashboxClosed ∧ t.fcu = (if p.badTariff then .default else s.fcu) ∧
    t.ciu.accept = (if p.badAcceptance then List.replicate 32 acceptDisabled else s.ciu.accept) ∧
    s.ParametersChecked t p.badParameters ∧
    t.tablesCleared = (s.tablesCleared || p.badTariff || p.badAcceptance || p.badParameters) ∧
    (p.badFinancial = true → t.FinancialCleared) ∧
    (p.badFinancial = false → s.FinancialKept t p.cashboxClosed)

/-- The end of start-up, once every snapshot has closed: the POWER record, the lanes in IDLE with their fault flags as R193
step 6 has them, and SERVICE, with what its entry does, or IN_USE as TABLES_CLEARED and the validation decide; with the
power-warning line held or asserted the part is SHUTTING_DOWN instead. That it is a command of its own is the model's choice
(log entry 12). -/
def Obligations.StartupEndOpensThePart : Prop :=
  ∀ s : State, s.part = .starting → s.anySale = false →
    ∀ asserted, ∃ t, exec (.startupEnd asserted) s = .next t ∧
      t.part = (if s.warnHeld = true ∨ asserted = true then .shuttingDown
        else if s.tablesCleared = true ∨ s.validate ≠ none then .service else .inUse) ∧
      t.warned = (s.warned || s.warnHeld || asserted) ∧ t.warnHeld = false ∧
      (∀ l, (t.lane l).state = .idle ∧ (t.lane l).cardFault = false ∧
        (t.lane l).coinFault = !(s.coin l).linkUp ∧ (t.lane l).sale = none) ∧
      t.jnu.journal = s.jnu.journal ++
        (if (s.start.cause = .powerOn ∨ 0 < s.start.closed) ∧ s.admits = true then
          [⟨s.jnu.recSeq, s.jnu.lost, s.now, .power s.start.cause s.start.bad s.start.closed⟩]
        else []) ∧
      t.jnu.waitTimer =
        (if t.jnu.journal = [] then .held s.jnu.waitTime else .running s.jnu.waitTime) ∧
      t.tablesCleared = s.tablesCleared ∧ t.fcu = s.fcu ∧ t.chu = s.chu ∧ t.clk = s.clk ∧ t.timers = s.timers ∧
      t.saleSeq = s.saleSeq ∧ t.ciu.accept = s.ciu.accept ∧
      (t.part = .service → s.serviceEntered t) ∧
      (t.part ≠ .service → t.ciu = s.ciu ∧ t.crt.entries = s.crt.entries) ∧
      (t.part = .inUse → t.pru = s.pru)

/-! ## Fare calculation -/

/-- The rounded quotient of stage 6 under each mode, with f and r the whole part and the remainder; the rounded price is that
quotient, of N divided by 10^8 times the unit, times the unit. -/
def Obligations.RoundedQuotientByMode : Prop :=
  (∀ mode n unit, roundPrice mode n unit = roundQuotient mode n (10 ^ 8 * unit) * unit) ∧
  ∀ f r m : Nat, r < m →
    roundQuotient .down (f * m + r) m = f ∧
    roundQuotient .up (f * m + r) m = (if r = 0 then f else f + 1) ∧
    roundQuotient .nearestUp (f * m + r) m = (if 2 * r < m then f else f + 1) ∧
    roundQuotient .nearestEven (f * m + r) m =
      (if 2 * r < m then f else if m < 2 * r then f + 1 else if 2 ∣ f then f else f + 1)

/-- Law 5 for tickets and passes: a priced price is a multiple of the unit, at most 999,999, and at most a non-zero
ceiling; the zones priced are at most Zmax. The ceiling is a multiple of the unit, as the validation has it. For a priced
top-up the price is the greatest candidate, going down from the amount asked in steps of the unit, whose purse value fits
Bmax; the purse value is K plus the price plus its bonus, and TOPUP_LIMIT is raised just when the amount asked did not
fit. -/
def Obligations.PricedAnswersKeepTheirLimits : Prop :=
  (∀ (t : Tariff) (p : Product) (zones quantity concession second day : Nat) (q : Quote),
    t.unit ∣ p.ceiling → t.priceTicket p zones quantity concession second day = .priced q →
      t.unit ∣ q.price ∧ q.price ≤ 999999 ∧ (0 < p.ceiling → q.price ≤ p.ceiling) ∧ q.zones = min zones p.zmax ∧
      q.conds.zoneRange = decide (p.zmax < zones)) ∧
  ∀ (t : Tariff) (p : Product) (zones amount k : Nat) (q : Quote), 0 < t.unit →
    t.priceTopup p zones amount k = .priced q →
      (∃ j, q.price + j * t.unit = amount ∧ ∀ i < j, t.bmax < t.purseAfter k (amount - i * t.unit)) ∧
      q.purse = some (k + q.price + t.bonus q.price) ∧ q.bonus = t.bonus q.price ∧
      k + q.price + t.bonus q.price ≤ t.bmax ∧ (q.price = amount ∨ p.minAmount ≤ q.price) ∧
      q.conds.topupLimit = decide (q.price ≠ amount)

/-- Which coin records an entry recognises on a lane: its lane mask names the lane, and a WINDOW entry holds every measurement in
its range, a CODE entry agrees with the class code on every bit of its mask, and a DISABLED entry recognises none. -/
def Obligations.RecognitionTest : Prop :=
  ∀ (e : AcceptFields) (l : Lane) (c : CoinRec),
    (e.kind = 3 → recognises e l c = false) ∧
    (e.kind = 1 → (recognises e l c = true ↔ (e.laneMask = l.code ∨ e.laneMask = 3) ∧
      (e.diamLo ≤ c.diam ∧ c.diam ≤ e.diamHi) ∧ (e.thickLo ≤ c.thick ∧ c.thick ≤ e.thickHi) ∧
      (e.condLo ≤ c.cond ∧ c.cond ≤ e.condHi))) ∧
    (e.kind = 2 → (recognises e l c = true ↔ (e.laneMask = l.code ∨ e.laneMask = 3) ∧
      ∀ i, e.codeMask.testBit i = true → c.cls.testBit i = e.code.testBit i))

/-! ## Payout plans -/

/-- A choice of k(n) coins for each tube of a list (R84), tube by tube in the order of the list. -/
def chosen : List Limit → List Nat → Prop
  | [], [] => True
  | x :: xs, k :: ks => k ≤ x.most ∧ chosen xs ks
  | _, _ => False

/-- The value of a choice. -/
def chosenValue : List Limit → List Nat → Nat
  | x :: xs, k :: ks => k * x.denom + chosenValue xs ks
  | _, _ => 0

/-- At the first tube where two choices differ the first one has more coins. -/
def preferred : List Nat → List Nat → Prop
  | a :: as, b :: bs => b < a ∨ a = b ∧ preferred as bs
  | _, _ => False

/-- The plan that a choice stands for: the tubes with coins. -/
def planOf : List Limit → List Nat → Plan
  | x :: xs, k :: ks => if k = 0 then planOf xs ks else (x.tube, k) :: planOf xs ks
  | _, _ => []

/-- The plan for an amount: a candidate within the limits and the budget that makes the amount, with the fewest coins, and
among those the preferred one; and where there is no plan there is no candidate. The best partial plan pays the greatest amount
up to the one asked that has a plan. -/
def Obligations.PlansAreFewestCoinsAndGreatest : Prop :=
  ∀ (xs : List Limit) (amount budget : Nat),
    (∀ p, planFor xs amount budget = some p → ∃ ks, chosen xs ks ∧ chosenValue xs ks = amount ∧ ks.sum ≤ budget ∧
      p = planOf xs ks ∧
      ∀ js, chosen xs js → chosenValue xs js = amount → js.sum ≤ budget →
        ks.sum < js.sum ∨ (ks.sum = js.sum ∧ (ks = js ∨ preferred ks js))) ∧
    (planFor xs amount budget = none → ∀ js, chosen xs js → chosenValue xs js = amount → budget < js.sum) ∧
    (bestPartial xs amount budget).1 ≤ amount ∧
    planFor xs (bestPartial xs amount budget).1 budget = some (bestPartial xs amount budget).2 ∧
    ∀ m, (bestPartial xs amount budget).1 < m → m ≤ amount → planFor xs m budget = none

/-! ## Requests that only report -/

/-- The requests that only report. STATUS and IDENTIFY are taken in every part state, JOURNAL_READ and TOTALS_READ in all but
STARTING, and TABLE_READ, TUBE_READ, RECOVERY_LIST, BUS_READ and PRINT_LIST outside STARTING and QUIESCED. The reply carries
what stands, and nothing else changes, but that STATUS clears the raised set and the lost counts. How some bodies spell what
stands is the model's choice: the part code as a line with its length byte and the revision behind it, the jobs of
PRINT_LIST in the order of their ages and the time left as one byte, and the other bytes that 12.1 leaves open (log entry 25);
and TUBE_READ gives an unused tube as NOT_LOW, the model's choice as well (log entry 54). The revision is a free value,
and so is the time left on a running hold timer, of at most 20 s and drawn anew for each PRINT_LIST (log entry 3). -/
def Obligations.ReportsCarryWhatStands : Prop :=
  ∀ (s : State) (lane tag : Nat), s.Settled → s.lki.hold = [] →
    exec (.status lane tag) s = .next (State.sends { s.quiet with
      financialLost := false
      lki := { s.lki with raised := [], noticesLost := false, lostCount := 0, dropCount := 0 } }
      lane tag .status .ok s.statusBody) ∧
    exec (.identify lane tag) s = .next (s.quiet.sends lane tag .identify .ok
      (textLine partCode ++ [Config.revision] ++ be 1 2 ++ be 1 s.part.code ++ flagByte s.tablesCleared ++
        flagByte s.financialLost)) ∧
    (s.takesRequests →
      (∀ table i bs, s.tableEntry table i = some bs →
        exec (.tableRead lane tag table i) s = .next (s.quiet.sends lane tag (.tableRead table i) .ok bs)) ∧
      exec (.tubeRead lane tag) s = .next (s.quiet.sends lane tag .tubeRead .ok
        (TubeNo.all.flatMap s.tubeItem ++ orderItems s.chu.orders)) ∧
      (∀ first n, first ≤ 15 → 1 ≤ n → n ≤ 4 →
        exec (.recoveryList lane tag first n) s = .next (s.quiet.sends lane tag (.recoveryList first n) .ok
          (be 1 s.crt.count ++ be 1 s.crt.reservations ++ optSerial s.crt.claims.a ++ optSerial s.crt.claims.b ++
            listBytes (fun x => x.2.bytes x.1) ((s.crt.listFrom first).take n)))) ∧
      exec (.busRead lane tag) s = .next (s.quiet.sends lane tag .busRead .ok
        (s.dbc.item .frontA ++ s.dbc.item .frontB ++ s.dbc.item .printer ++ optBe 1 (s.dbc.pointer.map Dev.number)))) ∧
    (s.part ≠ .starting →
      (∀ offset n, 1 ≤ n → n ≤ 4 → offset ≤ s.stored →
        exec (.journalRead lane tag offset n) s = .next (s.quiet.sends lane tag (.journalRead offset n) .ok
          (be 1 s.stored ++ be 1 s.held ++ be 4 s.oldestSeq ++ flagByte s.jnu.incomplete ++ be 1 s.jnu.lost ++
            listBytes Record.bytes (fitRecords n 230 (s.jnu.journal.drop offset))))) ∧
      (∀ section_ row bs, 1 ≤ section_ → section_ ≤ 3 → s.jnu.totals.read [] section_ row = some bs →
        exec (.totalsRead lane tag 1 section_ row) s =
          .next (s.quiet.sends lane tag (.totalsRead 1 section_ row) .ok bs)) ∧
      (∀ section_ row bs x, 1 ≤ section_ → section_ ≤ 3 → s.jnu.snapshot = some x →
        x.totals.read (optTime x.stop ++ be 1 x.mode.code) section_ row = some bs →
        exec (.totalsRead lane tag 2 section_ row) s =
          .next (s.quiet.sends lane tag (.totalsRead 2 section_ row) .ok (be 1 1 ++ bs)))) ∧
    (s.takesRequests →
      exec (.printList lane tag) s = .next (State.sends
        { s.quiet with freeCount := if s.pru.hold = .running then s.freeCount + 1 else s.freeCount }
        lane tag .printList .ok
        (be 1 s.pru.printer.code ++ be 1 (paperCode s.pru.paper) ++ be 1 (coverCode s.pru.cover) ++
          be 2 s.pru.linesRemaining ++ flagByte s.pru.paperLow ++ be 1 s.pru.hold.code ++
          be 1 (if s.pru.hold = .running then Config.holdTimeLeft s.freeCount % 21 else 0) ++
          listBytes (fun l => be 1 l.code) s.pru.reservedLanes ++ listBytes s.pru.jobItem s.pru.jobs)))

/-! ## Clock, part states -/

/-- CLOCK_SET: refused SERVICE_STATE in STARTING, QUIESCED in QUIESCED and RANGE past day 65,535 or second 86,399; otherwise the
clock takes the values given and is SET, whatever the lanes are doing, and the reply carries the clock as it stood. The day
change is reported to the recovery table just when the clock was UNSET or the day number changed. Nothing else changes. That
the second of day then counts as set and not as counted to is the model's choice (log entry 17). -/
def Obligations.ClockSetSetsTheClock : Prop :=
  ∀ (s : State) (lane tag day second : Nat), s.Settled → s.lki.hold = [] →
    (s.part = .starting →
      exec (.clockSet lane tag day second) s =
        .next (s.quiet.sends lane tag (.clockSet day second) .serviceState [])) ∧
    (s.part = .quiesced →
      exec (.clockSet lane tag day second) s = .next (s.quiet.sends lane tag (.clockSet day second) .quiesced [])) ∧
    (s.takesRequests → day ≤ 65535 ∧ second ≤ 86399 →
      exec (.clockSet lane tag day second) s = .next
        (((if s.clk.set = false ∨ s.clk.day ≠ day then
            { s.taking lane tag (.clockSet day second) with clk := ⟨true, day, second, false⟩ }.expiryCheck
          else { s.taking lane tag (.clockSet day second) with clk := ⟨true, day, second, false⟩ }).reply .ok
            (be 2 s.clk.day ++ be 3 s.clk.second ++ flagByte s.clk.set)).settle)) ∧
    (s.takesRequests → 65535 < day ∨ 86399 < second →
      exec (.clockSet lane tag day second) s = .next (s.quiet.sends lane tag (.clockSet day second) .range [])) ∧
    (s.takesRequests → s.clk.set = true → s.clk.day = day → second ≤ 86399 → day ≤ 65535 →
      exec (.clockSet lane tag day second) s = .next
        (State.sends { s.quiet with clk := ⟨true, day, second, false⟩ } lane tag (.clockSet day second) .ok
          (be 2 s.clk.day ++ be 3 s.clk.second ++ flagByte true)))

/-- RESET, with force always and without force while no sale is open, is answered OK and waits for its reply to be sent;
without force a sale open on either lane refuses it. SHUTDOWN moves IN_USE and SERVICE to SHUTTING_DOWN; that the low states
and PAPER_LOW then stand as they did in SERVICE is the model's choice (log entry 40). SERVICE_ENTER: in IN_USE with both lanes
IDLE and no resolution under way the part enters SERVICE, coin audit goes off, queued receipts end CANCELLED, the
deferral-reported flags are cleared and the reply is OK; otherwise the reply says why not and the part state stands.
SERVICE_LEAVE: with no dump under way and the whole configuration valid the part enters IN_USE, TABLES_CLEARED is cleared and
the watermark written takes effect; a relation that fails refuses it with its table and index. -/
def Obligations.PartStateRequestsAreTaken : Prop :=
  ∀ (s : State) (lane tag : Nat), s.Settled → s.lki.hold = [] →
    (s.part ≠ .starting → s.chu.dump = none →
      exec (.resetWithForce lane tag) s =
        .next (State.sends { s.quiet with resetPending := true } lane tag (.reset 1) .ok []) ∧
      (s.anySale = false → exec (.resetWithoutForce lane tag) s =
        .next (State.sends { s.quiet with resetPending := true } lane tag (.reset 0) .ok [])) ∧
      (s.anySale = true → exec (.resetWithoutForce lane tag) s =
        .next (s.quiet.sends lane tag (.reset 0) .wrongState []))) ∧
    (s.part = .inUse ∨ s.part = .service →
      ∃ t, exec (.shutdown lane tag) s = .next t ∧ t.part = .shuttingDown ∧ s.answered t lane tag .shutdown .ok [] ∧
        t.lanes = s.lanes ∧ t.chu = s.chu ∧ t.ciu = s.ciu ∧ t.jnu = s.jnu ∧ t.pru = s.pru ∧ t.clk = s.clk ∧
        t.crt.entries = s.crt.entries ∧ t.fcu = s.fcu ∧ t.warned = s.warned) ∧
    (s.part = .shuttingDown →
      exec (.shutdown lane tag) s = .next (s.quiet.sends lane tag .shutdown .ok [])) ∧
    (s.part = .inUse → s.bothIdle = true → s.resolving .a = false → s.resolving .b = false →
      ∃ t, exec (.serviceEnter lane tag) s = .next t ∧ t.part = .service ∧ s.answered t lane tag .serviceEnter .ok [] ∧
        s.serviceEntered t ∧ (∀ l, (t.session l).purpose ≠ .idleScan) ∧
        t.lanes = s.lanes ∧ t.chu = s.chu ∧ t.jnu = s.jnu ∧ t.clk = s.clk ∧
        t.fcu = s.fcu ∧ t.ciu.accept = s.ciu.accept) ∧
    (s.part = .inUse → (s.bothIdle = false ∨ s.resolving .a = true ∨ s.resolving .b = true) →
      exec (.serviceEnter lane tag) s = .next (s.quiet.sends lane tag .serviceEnter .wrongState [])) ∧
    (s.part = .service → exec (.serviceEnter lane tag) s = .next (s.quiet.sends lane tag .serviceEnter .ok [])) ∧
    (s.part = .shuttingDown →
      exec (.serviceEnter lane tag) s = .next (s.quiet.sends lane tag .serviceEnter .shuttingDown [])) ∧
    (s.part = .service → s.chu.dump = none → s.validate = none →
      ∃ t, exec (.serviceLeave lane tag) s = .next t ∧ t.part = .inUse ∧ t.tablesCleared = false ∧
        s.answered t lane tag .serviceLeave .ok [] ∧ t.jnu.inForce = s.jnu.watermark ∧
        (∀ n, t.tube n = { s.tube n with
          low := if (s.tube n).denom = 0 then false else decide (s.available n ≤ (s.tube n).l1) }) ∧
        t.lanes = s.lanes ∧ t.ciu = s.ciu ∧ t.fcu = s.fcu ∧ t.jnu.journal = s.jnu.journal ∧ t.clk = s.clk ∧
        t.crt.entries = s.crt.entries ∧ t.pru.jobs = s.pru.jobs) ∧
    (s.part = .service → s.chu.dump = none → ∀ t i, s.validate = some (t, i) →
      exec (.serviceLeave lane tag) s =
        .next (s.quiet.sends lane tag .serviceLeave .tableInvalid (be 1 t.code ++ be 1 i))) ∧
    (s.part = .service → s.chu.dump ≠ none →
      exec (.serviceLeave lane tag) s = .next (s.quiet.sends lane tag .serviceLeave .busy [])) ∧
    (s.takesRequests → s.part ≠ .service →
      exec (.serviceLeave lane tag) s = .next (s.quiet.sends lane tag .serviceLeave .notInService []))

/-! ## Tables -/

/-- A TABLE_WRITE in SERVICE whose fields lie in their ranges is stored at its index and answered OK, and nothing else
changes, but that a tube made unused loses its low state. The model's choices: an id or a used byte of 0 leaves the other fields
untested (log entries 33 to 35), a mask bit of 1 means masked (log entry 36), and a tube made used keeps its low state until its
next change (log entry 39). -/
def Obligations.TableWritesAreStored : Prop :=
  ∀ (s : State) (lane tag i : Nat), s.Settled → s.lki.hold = [] → s.part = .service →
    (∀ e, i < 48 → e.id = 0 →
      exec (.tableWriteProduct lane tag i e) s = .next (State.sends
        { s.quiet with fcu := { s.fcu with products := s.fcu.products.set i none } }
        lane tag (.tableWrite i (.product e)) .ok [])) ∧
    (∀ e p, i < 48 → e.id ≠ 0 → productOf e = some p → s.fcu.idElsewhere i e.id = false →
      exec (.tableWriteProduct lane tag i e) s = .next (State.sends
        { s.quiet with fcu := { s.fcu with products := s.fcu.products.set i (some p) } }
        lane tag (.tableWrite i (.product e)) .ok [])) ∧
    (∀ d k, i < 8 → d ≤ 10000 → k < 16 → (i ≠ 0 ∨ d = 0) →
      exec (.tableWriteConcession lane tag i d k) s = .next (State.sends
        { s.quiet with
          fcu := { s.fcu with
            classes := s.fcu.classes.set i ⟨d, k.testBit 0, k.testBit 1, k.testBit 2, k.testBit 3⟩ } }
        lane tag (.tableWrite i (.concession d k)) .ok [])) ∧
    (∀ u a b f, i < 4 → (u = 0 ∨ u = 1 ∧ a < b ∧ b ≤ 86400 ∧ f ≤ 20000) →
      exec (.tableWriteBand lane tag i u a b f) s = .next (State.sends
        { s.quiet with
          fcu := { s.fcu with bands := s.fcu.bands.set i (if u = 0 then none else some ⟨a, b, f⟩) } }
        lane tag (.tableWrite i (.band u a b f)) .ok [])) ∧
    (∀ u th r, i < 4 → (u = 0 ∨ u = 1 ∧ 1 ≤ th ∧ th ≤ 999999 ∧ r ≤ 5000) →
      exec (.tableWriteTier lane tag i u th r) s = .next (State.sends
        { s.quiet with fcu := { s.fcu with tiers := s.fcu.tiers.set i (if u = 0 then none else some ⟨th, r⟩) } }
        lane tag (.tableWrite i (.tier u th r)) .ok [])) ∧
    (∀ u m b k mode, i = 0 → u ∈ [1, 2, 5, 10, 20, 25, 50, 100] → Rounding.ofCode m = some mode → 1 ≤ b →
      b ≤ 999999 → k < 32 →
      exec (.tableWriteGlobal lane tag i u m b k) s = .next (State.sends
        { s.quiet with fcu := { s.fcu with unit := u, mode := mode, bmax := b, mask := PriceConds.ofByte k } }
        lane tag (.tableWrite i (.global u m b k)) .ok [])) ∧
    (∀ e, i < 32 → acceptWritable e = true →
      exec (.tableWriteAcceptance lane tag i e) s = .next (State.sends
        { s.quiet with ciu := { s.ciu with accept := s.ciu.accept.set i e } }
        lane tag (.tableWrite i (.acceptance e)) .ok [])) ∧
    (∀ n d c x y, TubeNo.ofCode i = some n → d ≤ 50000 → 1 ≤ c → c ≤ 150 → x ≤ 150 → y ≤ 150 →
      (d = (s.tube n).denom ∨ (s.tube n).count = 0) →
      exec (.tableWriteTube lane tag i d c x y) s = .next (State.sends
        (if d = 0 then
          (s.quiet.setTube n { s.tube n with denom := d, capacity := c, l1 := x, l2 := y, low := false }).clear
            (.tubeLow n)
        else s.quiet.setTube n { s.tube n with denom := d, capacity := c, l1 := x, l2 := y })
        lane tag (.tableWrite i (.tube d c x y)) .ok [])) ∧
    (∀ c, i = 0 → 1 ≤ c → c ≤ 40 →
      exec (.tableWriteCoinLimit lane tag i c) s = .next (State.sends
        { s.quiet with chu := { s.chu with coinLimit := c } } lane tag (.tableWrite i (.coinLimit c)) .ok [])) ∧
    (∀ r x y, i = 0 → 500 ≤ r → r ≤ 20000 → x ≤ 20000 → 1 ≤ y → y ≤ 20000 →
      exec (.tableWritePaper lane tag i r x y) s = .next (State.sends
        { s.quiet with pru := { s.pru with rollLines := r, lowDeclare := x, lowClear := y } }
        lane tag (.tableWrite i (.paper r x y)) .ok [])) ∧
    (∀ w x o a, i = 0 → 1 ≤ w → w ≤ 64 → 10 ≤ x → x ≤ 3600 → (o = 0 ∨ o = 1 ∧ a ≤ 86399) →
      exec (.tableWriteJournal lane tag i w x o a) s = .next (State.sends
        { s.quiet with jnu := { s.jnu with
          watermark := w, waitTime := x, autoTime := if o = 0 then none else some a } }
        lane tag (.tableWrite i (.journal w x o a)) .ok [])) ∧
    (∀ a n w h, i = 0 → 5 ≤ a → a ≤ 120 → 10 ≤ n → n ≤ 300 → 5 ≤ w → w ≤ 60 → 1 ≤ h → h ≤ 30 →
      exec (.tableWriteTimers lane tag i a n w h) s = .next (State.sends
        { s.quiet with timers := ⟨a, n, w, h⟩ } lane tag (.tableWrite i (.timers a n w h)) .ok [])) ∧
    (∀ m mode, i < 16 → NoticeMode.ofCode m = some mode →
      exec (.tableWriteNoticeModes lane tag i m) s = .next (State.sends
        { s.quiet with lki := { s.lki with modes := s.lki.modes.set i mode } }
        lane tag (.tableWrite i (.noticeMode m)) .ok []))

/-- The TABLE_WRITE commands as one: the command that carries an entry for an index. -/
def tableWriteCommand (lane tag i : Nat) : TableEntry → Instr
  | .product e => .tableWriteProduct lane tag i e
  | .concession d k => .tableWriteConcession lane tag i d k
  | .band u a b f => .tableWriteBand lane tag i u a b f
  | .tier u th r => .tableWriteTier lane tag i u th r
  | .global u m b k => .tableWriteGlobal lane tag i u m b k
  | .acceptance e => .tableWriteAcceptance lane tag i e
  | .tube d c x y => .tableWriteTube lane tag i d c x y
  | .coinLimit c => .tableWriteCoinLimit lane tag i c
  | .paper r x y => .tableWritePaper lane tag i r x y
  | .journal w x o a => .tableWriteJournal lane tag i w x o a
  | .timers a n w h => .tableWriteTimers lane tag i a n w h
  | .noticeMode m => .tableWriteNoticeModes lane tag i m

/-- The entries that TABLE_WRITE refuses RANGE in SERVICE, table by table: an index or a field outside its range (R31 to R35,
R56, R79, R145, R184, R187, R204). What a product id of 0 and a used byte of 0 leave untested is the model's choice (log
entries 33 to 35). -/
def outOfRange (s : State) (i : Nat) : TableEntry → Prop
  | .product e => 48 ≤ i ∨ e.id ≠ 0 ∧ (productOf e = none ∨ s.fcu.idElsewhere i e.id = true)
  | .concession d k => 8 ≤ i ∨ 10000 < d ∨ 16 ≤ k ∨ i = 0 ∧ d ≠ 0
  | .band u a b f => 4 ≤ i ∨ 1 < u ∨ u = 1 ∧ (b ≤ a ∨ 86400 < b ∨ 20000 < f)
  | .tier u t r => 4 ≤ i ∨ 1 < u ∨ u = 1 ∧ (t = 0 ∨ 999999 < t ∨ 5000 < r)
  | .global u m b k =>
    i ≠ 0 ∨ u ∉ [1, 2, 5, 10, 20, 25, 50, 100] ∨ Rounding.ofCode m = none ∨ b = 0 ∨ 999999 < b ∨ 32 ≤ k
  | .acceptance e => 32 ≤ i ∨ acceptWritable e = false
  | .tube d c x y => TubeNo.ofCode i = none ∨ 50000 < d ∨ c = 0 ∨ 150 < c ∨ 150 < x ∨ 150 < y
  | .coinLimit c => i ≠ 0 ∨ c = 0 ∨ 40 < c
  | .paper r x y => i ≠ 0 ∨ r < 500 ∨ 20000 < r ∨ 20000 < x ∨ y = 0 ∨ 20000 < y
  | .journal w x o a => i ≠ 0 ∨ w = 0 ∨ 64 < w ∨ x < 10 ∨ 3600 < x ∨ 1 < o ∨ o = 1 ∧ 86399 < a
  | .timers a n w h =>
    i ≠ 0 ∨ a < 5 ∨ 120 < a ∨ n < 10 ∨ 300 < n ∨ w < 5 ∨ 60 < w ∨ h = 0 ∨ 30 < h
  | .noticeMode m => 16 ≤ i ∨ NoticeMode.ofCode m = none

/-- Refused requests change nothing. A TABLE_WRITE outside SERVICE, whatever it carries, is answered NOT_IN_SERVICE: that this
comes before RANGE is the model's choice (log entry 10). In SERVICE one with an index or a field outside its range is
answered RANGE, and one that gives a tube with coins another denomination TUBE_NOT_EMPTY. A SALE_CANCEL is answered TOO_LATE
once delivery has begun and WRONG_STATE with no sale on the lane. -/
def Obligations.RefusalsChangeNothing : Prop :=
  ∀ (s : State) (tag : Nat), s.Settled → s.lki.hold = [] → s.takesRequests →
    (s.part ≠ .service → ∀ lane i e, exec (tableWriteCommand lane tag i e) s =
      .next (s.quiet.sends lane tag (.tableWrite i e) .notInService [])) ∧
    (s.part = .service → ∀ lane i e, outOfRange s i e → exec (tableWriteCommand lane tag i e) s =
      .next (s.quiet.sends lane tag (.tableWrite i e) .range [])) ∧
    (s.part = .service → ∀ lane i n d c x y, TubeNo.ofCode i = some n → d ≤ 50000 → 1 ≤ c → c ≤ 150 → x ≤ 150 →
      y ≤ 150 → d ≠ (s.tube n).denom → 0 < (s.tube n).count → exec (.tableWriteTube lane tag i d c x y) s =
        .next (s.quiet.sends lane tag (.tableWrite i (.tube d c x y)) .tubeNotEmpty [])) ∧
    (∀ l, (s.lane l).state ∈ [LaneState.delivering, .cardWait, .payout, .refunding] →
      exec (.saleCancel l.code tag) s = .next (s.quiet.sends l.code tag .saleCancel .tooLate [])) ∧
    (∀ l, (s.lane l).state ∈ [LaneState.idle, .enquiry, .recovering] →
      exec (.saleCancel l.code tag) s = .next (s.quiet.sends l.code tag .saleCancel .wrongState []))

/-- The code by which TABLE_WRITE and TABLE_READ name the table of an entry (R187). -/
def tableCodeOf : TableEntry → Nat
  | .product _ => 1
  | .concession .. => 2
  | .band .. => 3
  | .tier .. => 4
  | .global .. => 5
  | .acceptance _ => 6
  | .tube .. => 7
  | .coinLimit _ => 8
  | .paper .. => 9
  | .journal .. => 10
  | .timers .. => 11
  | .noticeMode _ => 12

/-- What TABLE_READ carries of a written entry after it has been taken, and what follows the written fields: the bytes of
the fields as TABLE_WRITE carried them; a product emptied, and a band, a tier and an automatic time switched off, read as
zeros. -/
def writtenBytes (e : TableEntry) : List Byte :=
  match e with
  | .product f =>
    if f.id = 0 then List.replicate 27 0
    else be 1 f.id ++ be 1 f.kind ++ be 4 f.base ++ be 4 f.step ++ be 1 f.included ++ be 1 f.zmax ++
      be 1 f.bandApplies ++ be 4 f.ceiling ++ be 2 f.duration ++ be 4 f.minAmount ++ be 4 f.maxAmount
  | .concession d k => be 2 d ++ be 1 k
  | .band u a b f => if u = 0 then List.replicate 9 0 else be 1 1 ++ be 3 a ++ be 3 b ++ be 2 f
  | .tier u t r => if u = 0 then List.replicate 7 0 else be 1 1 ++ be 4 t ++ be 2 r
  | .global u m b k => be 4 u ++ be 1 m ++ be 4 b ++ be 1 k
  | .acceptance e => acceptBytes e
  | .tube d c x y => be 4 d ++ be 1 c ++ be 1 x ++ be 1 y
  | .coinLimit c => be 1 c
  | .paper r x y => be 2 r ++ be 2 x ++ be 2 y
  | .journal w x o a => be 1 w ++ be 2 x ++ (if o = 0 then be 1 0 ++ be 3 0 else be 1 1 ++ be 3 a)
  | .timers a n w h => be 1 a ++ be 2 n ++ be 1 w ++ be 1 h
  | .noticeMode m => be 1 m

/-- What TABLE_WRITE takes, TABLE_READ of the same table and index reports: the written fields, and after them what the
table reports besides. The tables have their sizes. That an emptied product, an unused band or tier and an automatic time
switched off read as zeros is the model's choice (log entry 25). -/
def Obligations.WrittenEntriesReadBack : Prop :=
  ∀ (s t : State) (i : Nat) (e : TableEntry), s.fcu.products.length = 48 → s.fcu.classes.length = 8 →
    s.fcu.bands.length = 4 → s.fcu.tiers.length = 4 → s.ciu.accept.length = 32 → s.lki.modes.length = 16 →
    s.writeTable i e = .taken t → ∃ more, t.tableEntry (tableCodeOf e) i = some (writtenBytes e ++ more) ∧
      (tableCodeOf e ∉ [7, 9, 10] → more = [])

/-! ## Sales -/

/-- An admitted SALE_OPEN for CARD delivery: the lane enters AWAIT_CARD with its timer, the sale is open with the next
sequence and its journal pair and recovery reservation, the card is asked for, and nothing is priced yet. -/
def Obligations.SaleOpenForCardAwaitsTheCard : Prop :=
  ∀ (s : State) (l : Lane) (tag : Nat) (o : SaleOperands) (p : Product), s.Settled → s.lki.hold = [] →
    requestSize (.saleOpen o) ≤ 240 → s.Admits l o p → o.delivery = 2 → (s.session l).res = none →
    ∃ t x, exec (.saleOpen l.code tag o) s = .next t ∧ (t.lane l).sale = some x ∧
      (t.lane l).state = .awaitCard ∧ (t.lane l).timer = some s.timers.awaitCard ∧
      x.seq = seqNext s.saleSeq ∧ t.saleSeq = x.seq ∧ x.product = o.product ∧ x.kind = p.kind ∧
      x.zonesAsked = o.zones ∧ x.quantity = o.quantity ∧ x.concession = o.concession ∧ x.topup = o.topup ∧
      x.delivery = .card ∧ x.receipt = decide (o.receipt = 1) ∧ x.receiptLines = o.lines ∧ x.price = none ∧
      x.coinsReceived = 0 ∧ x.journalRes = 2 ∧ x.recoveryRes = true ∧ x.ticketSlot = false ∧ x.opened = s.now ∧
      (t.session l).purpose = .saleRead ∧ t.crt.reserved = s.crt.reserved.set l true ∧
      s.answered t l.code tag (.saleOpen o) .ok (be 4 x.seq ++ optBe 4 none ++ be 1 0) ∧
      t.lane l.other = s.lane l.other ∧ t.session l.other = s.session l.other ∧
      t.crt.entries = s.crt.entries ∧ t.part = s.part ∧ t.clk = s.clk ∧ t.fcu = s.fcu ∧ t.ciu = s.ciu ∧
      t.chu = s.chu ∧ t.jnu = s.jnu ∧ t.pru.jobs = s.pru.jobs ∧ t.timers = s.timers

/-- An admitted SALE_OPEN for PAPER delivery that prices above 0: the lane enters PAYING with the inactivity timer, the sale
carries the price and its condition set, and the ticket slot is reserved. One that pricing refuses changes nothing and is
answered with the pricing's code and condition set. -/
def Obligations.SaleOpenForPaperIsPriced : Prop :=
  ∀ (s : State) (l : Lane) (tag : Nat) (o : SaleOperands) (p : Product), s.Settled → s.lki.hold = [] →
    requestSize (.saleOpen o) ≤ 240 → s.Admits l o p → o.delivery = 1 →
    (∀ q, s.fcu.price s.clk o.product o.zones o.quantity o.concession o.topup .paper (Payment.ofCode o.payment) none =
        .priced q → 0 < q.price → (s.session l).res = none →
      ∃ t x, exec (.saleOpen l.code tag o) s = .next t ∧ (t.lane l).sale = some x ∧
        (t.lane l).state = .paying ∧ (t.lane l).timer = some s.timers.inactivity ∧
        x.seq = seqNext s.saleSeq ∧ t.saleSeq = x.seq ∧ x.product = o.product ∧ x.price = some q.price ∧
        x.conds = q.conds ∧ x.zonesPriced = q.zones ∧ x.validity = q.validity ∧ x.coinsReceived = 0 ∧
        x.journalRes = 2 ∧ x.ticketSlot = true ∧ x.recoveryRes = false ∧ x.delivery = .paper ∧
        (t.session l).purpose = .none ∧ t.pru.reserved = s.pru.reserved.set l true ∧
        s.answered t l.code tag (.saleOpen o) .ok (be 4 x.seq ++ optBe 4 (some q.price) ++ be 1 q.conds.byte) ∧
        t.lane l.other = s.lane l.other ∧ t.crt.entries = s.crt.entries ∧ t.part = s.part ∧ t.clk = s.clk ∧
        t.fcu = s.fcu ∧ t.ciu = s.ciu ∧ t.chu = s.chu ∧ t.jnu = s.jnu ∧ t.pru.jobs = s.pru.jobs) ∧
    (∀ q, s.fcu.price s.clk o.product o.zones o.quantity o.concession o.topup .paper (Payment.ofCode o.payment) none =
        .priced q → q.price = 0 → s.pru.hold ≠ .expired →
      ∃ t x, exec (.saleOpen l.code tag o) s = .next t ∧ (t.lane l).sale = some x ∧
        (t.lane l).state = .delivering ∧ (t.lane l).timer = none ∧ x.price = some 0 ∧ x.ticketSlot = false ∧
        t.pru.reserved = s.pru.reserved.set l false ∧
        (∃ j ∈ t.pru.jobs, j.kind = .ticket ∧ j.lane = some l ∧ j.seq = x.seq ∧ j.lines.length = 12)) ∧
    (∀ code c, s.fcu.price s.clk o.product o.zones o.quantity o.concession o.topup .paper (Payment.ofCode o.payment)
        none = .refused code c →
      exec (.saleOpen l.code tag o) s =
        .next (s.quiet.sends l.code tag (.saleOpen o) code.status (be 1 c.byte)))

/-- A sale on which nothing has been paid closes at once: SALE_CANCEL in AWAIT_CARD, AWAIT_CARD_TIMEOUT, and
INACTIVITY_TIMEOUT in PAYING with no coins received. -/
def Obligations.UnpaidSalesCloseAtOnce : Prop :=
  ∀ (s : State) (l : Lane) (x : Sale), s.Settled → (s.lane l).sale = some x → x.shortfall = 0 →
    ((s.lane l).state = .awaitCard → s.lki.hold = [] → s.takesRequests → ∀ tag,
      ∃ t, exec (.saleCancel l.code tag) s = .next t ∧ s.ClosedAtOnce t l x .cancelled ∧
        s.answered t l.code tag .saleCancel .ok []) ∧
    ((s.lane l).state = .awaitCard → (s.lane l).timer ≠ none →
      ∃ t, exec (.awaitCardTimeout l) s = .next t ∧ s.ClosedAtOnce t l x .timedOut) ∧
    ((s.lane l).state = .paying → (s.lane l).timer ≠ none → x.coinsReceived = 0 →
      ∃ t, exec (.inactivityTimeout l) s = .next t ∧ s.ClosedAtOnce t l x .timedOut)

/-- A sale in PAYING or CARD_WAIT (PRE_WRITE) that cannot go on is refunded: by SALE_CANCEL, INACTIVITY_TIMEOUT or
PRE_WRITE_WINDOW_EXPIRY. That the flap is driven at the asking while the tray, pending_in and the totals stand until the
return is complete is the model's choice (log entry 16). So is it that with an empty tray and nothing committed the same
way through REFUNDING ends in the close at once (log entry 20). -/
def Obligations.PaidSalesAreRefunded : Prop :=
  ∀ (s : State) (l : Lane) (x : Sale), s.Settled → (s.lane l).sale = some x →
    ((s.coin l).tray ≠ [] →
      ((s.lane l).state = .paying → s.lki.hold = [] → s.takesRequests → ∀ tag,
        ∃ t, exec (.saleCancel l.code tag) s = .next t ∧ s.RefundBegun t l x .cancelled ∧
          s.answered t l.code tag .saleCancel .ok []) ∧
      ((s.lane l).state = .paying → (s.lane l).timer ≠ none → 0 < x.coinsReceived →
        ∃ t, exec (.inactivityTimeout l) s = .next t ∧ s.RefundBegun t l x .timedOut) ∧
      ((s.lane l).state = .cardWait → x.waitKind = some .preWrite → (s.lane l).timer ≠ none →
        ∃ t, exec (.preWriteWindowExpiry l) s = .next t ∧ s.RefundBegun t l x .deliveryFailed)) ∧
    ((s.coin l).tray = [] → (s.coin l).trayOp = .none → x.committed ≤ x.refundPaid → x.shortfall = 0 →
      ((s.lane l).state = .paying → s.lki.hold = [] → s.takesRequests → ∀ tag,
        ∃ t, exec (.saleCancel l.code tag) s = .next t ∧ s.ClosedAtOnce t l x .cancelled ∧
          s.answered t l.code tag .saleCancel .ok []) ∧
      ((s.lane l).state = .cardWait → x.waitKind = some .preWrite → (s.lane l).timer ≠ none →
        ∃ t, exec (.preWriteWindowExpiry l) s = .next t ∧ s.ClosedAtOnce t l x .deliveryFailed))

/-- CARD_READ on an idle, unfaulted lane starts an enquiry for 10 s; ENQUIRY_TIMEOUT ends it with a CARD notice of no
card and the lane in IDLE. -/
def Obligations.CardReadStartsAnEnquiry : Prop :=
  ∀ (s : State) (l : Lane), s.Settled →
    (s.part = .inUse → (s.lane l).state = .idle → (s.coin l).audit = false → (s.lane l).cardFault = false →
      (s.lane l).sale = none → (s.session l).res = none → s.lki.hold = [] → ∀ tag,
      ∃ t, exec (.cardRead l.code tag) s = .next t ∧
        t.lane l = { s.lane l with state := .enquiry, timer := some 10 } ∧ (t.session l).purpose = .enquiry ∧
        t.lane l.other = s.lane l.other ∧ t.session l.other = s.session l.other ∧
        s.answered t l.code tag .cardRead .ok [] ∧ t.crt.entries = s.crt.entries ∧ t.ciu = s.ciu ∧ t.chu = s.chu ∧
        t.jnu = s.jnu ∧ t.pru = s.pru ∧ t.fcu = s.fcu ∧ t.clk = s.clk ∧ t.part = s.part) ∧
    ((s.lane l).state = .enquiry → (s.lane l).timer ≠ none → (s.lane l).sale = none → s.lki.notices.length < 32 →
      s.lki.tx ≠ none →
      ∃ t, exec (.enquiryTimeout l) s = .next t ∧
        t.lane l = { s.lane l with state := .idle, timer := none } ∧
        t.lki.notices = s.lki.notices ++ [.card l none] ∧ t.lane l.other = s.lane l.other ∧
        t.crt.entries = s.crt.entries ∧ t.ciu = s.ciu ∧ t.chu = s.chu ∧ t.jnu = s.jnu ∧ t.pru = s.pru ∧
        t.part = s.part)

/-- LANE_RESTORE with the card path unfaulted is answered at once: OK with the coin path restored while the head link is UP,
and STILL_FAULTY with the coin path otherwise. With the card path faulted and the front-end free it waits for a
FIELD_POLL of the lane's front-end. That the coin path passes its check just when the head link is UP is the model's choice:
R5 asks for a sign of life within the last 2 s, and while the link is UP the last one lies there (log entries 15 and 5). When
the FIELD_POLL has ended the reply is given: a response restores the card path and clears CARD_PATH, and the reply is OK, or
STILL_FAULTY with the coin path alone; a response that does not judge, or none, leaves the card path faulted and the reply is
STILL_FAULTY with it. That the coin path is reported as its check found it at the request is the model's choice (log entry
32). -/
def Obligations.LaneRestoreChecksThePaths : Prop :=
  (∀ (s : State) (l : Lane) (tag : Nat), s.Settled → s.lki.hold = [] → s.takesRequests →
    ((s.lane l).cardFault = false → ((s.coin l).linkUp = true ∨ (s.lane l).coinFault = false) →
      exec (.laneRestore l.code tag) s = .next
        (State.sends (s.quiet.setLane l { s.lane l with coinFault := false }) l.code tag .laneRestore .ok [])) ∧
    ((s.lane l).cardFault = false → (s.coin l).linkUp = false → (s.lane l).coinFault = true →
      exec (.laneRestore l.code tag) s = .next (s.quiet.sends l.code tag .laneRestore .stillFaulty (be 1 1))) ∧
    ((s.lane l).cardFault = true → (s.session l).use = none →
      ∃ t, exec (.laneRestore l.code tag) s = .next t ∧
        t.restore = some ⟨l, (s.lane l).coinFault && !(s.coin l).linkUp⟩ ∧ (t.session l).use = some .restore ∧
        (t.lane l).coinFault = ((s.lane l).coinFault && !(s.coin l).linkUp) ∧ (t.lane l).cardFault = true ∧
        t.lki.hold = [⟨requestCode .laneRestore, l.code, tag, .laneRestore⟩] ∧ t.lki.ready = s.lki.ready ∧
        t.crt.entries = s.crt.entries ∧ t.ciu = s.ciu ∧ t.chu = s.chu ∧ t.jnu = s.jnu ∧ t.pru = s.pru ∧
        (s.dbc.current = none → s.dbc.noneWaiting = true →
          t.dbc.current = some ⟨Dev.ofLane l, .fieldPoll, .sending, none, !s.dbc.readyHigh⟩))) ∧
  ∀ (s : State) (l : Lane) (still : Bool) (h : Held) (e : Exchange), s.Settled → s.restore = some ⟨l, still⟩ →
    (s.session l).use = some .restore → (s.session l).behind = none → (s.lane l).cardFault = true →
    s.lki.hold.head? = some h → s.dbc.current = some e → e.dev = Dev.ofLane l →
    (∀ bytes r, e.phase = .receiving → e.req.judge bytes = some r →
      ∃ t, exec (.responseReceived bytes) s = .next t ∧ t.restore = none ∧ (t.session l).use = none ∧
        t.lane l = { s.lane l with cardFault := false } ∧ t.lane l.other = s.lane l.other ∧
        (∀ k, k ∈ t.lki.conds ↔ k ∈ s.lki.conds ∧ k ≠ .cardPath l) ∧
        s.replies t h (if still = true then .stillFaulty else .ok) (if still = true then be 1 1 else []) ∧
        t.crt = s.crt ∧ t.ciu = s.ciu ∧ t.chu = s.chu ∧ t.jnu = s.jnu ∧ t.pru = s.pru) ∧
    (∀ c, (∃ bytes, c = .responseReceived bytes ∧ e.phase = .receiving ∧ e.req.judge bytes = none) ∨
        c = .responseDeadline ∧ e.phase = .waitingReady →
      ∃ t, exec c s = .next t ∧ t.restore = none ∧ (t.session l).use = none ∧ t.lanes = s.lanes ∧
        t.lki.conds = s.lki.conds ∧ s.replies t h .stillFaulty (be 1 (if still = true then 3 else 2)) ∧
        t.crt = s.crt ∧ t.ciu = s.ciu ∧ t.chu = s.chu ∧ t.jnu = s.jnu ∧ t.pru = s.pru)

/-! ## Coin intake -/

/-- COIN_INHIBIT replaces the lane's inhibit set, and COIN_AUDIT switches audit mode: on in IN_USE on an IDLE lane, off at
any time; nothing else changes. The order in which the reply lists the set is the model's choice (log entry 37). -/
def Obligations.CoinInhibitAndAuditAreTaken : Prop :=
  ∀ (s : State) (l : Lane) (tag : Nat), s.Settled → s.lki.hold = [] → s.takesRequests →
    (∀ ds : List Nat, ds.length ≤ 8 → (∀ d ∈ ds, 1 ≤ d ∧ d ≤ 50000) →
      exec (.coinInhibit l.code tag ds) s = .next (State.sends
        (s.quiet.setCoin l { s.coin l with inhibits := distinct ds }) l.code tag (.coinInhibit ds) .ok
        (listBytes (be 4) (distinct ds)))) ∧
    (s.part = .inUse → (s.lane l).state = .idle →
      exec (.coinAuditOn l.code tag) s = .next (State.sends
        (s.quiet.setCoin l { s.coin l with audit := true }) l.code tag (.coinAudit 1) .ok [])) ∧
    exec (.coinAuditOff l.code tag) s = .next (State.sends
      (s.quiet.setCoin l { s.coin l with audit := false }) l.code tag (.coinAudit 0) .ok [])

/-- A coin that a lane in PAYING takes below its price goes to the tray: the tray entry, pending_in of its tube, the coins
received, the total and the restarted timer; and nothing else of the lane or the tubes changes. -/
def Obligations.CoinBelowThePriceGoesToTheTray : Prop :=
  ∀ (s : State) (l : Lane) (x : Sale) (diam thick cond cls i : Nat) (e : AcceptFields) (g : Target), s.Settled →
    (s.coin l).audit = false → (s.lane l).state = .paying → (s.lane l).sale = some x → s.gateHeld l = false →
    (s.search l ⟨diam, thick, cond, cls, true⟩).found = some (i, e) → acceptTarget e = some g →
    (s.coin l).tray.length < 8 → x.coinsReceived + e.denom < x.price.getD 0 →
    ∃ t, exec (.coinRecord l diam thick cond cls true) s = .next t ∧
      (t.lane l).state = .paying ∧ (t.lane l).timer = some s.timers.inactivity ∧
      (t.lane l).sale = some { x with coinsReceived := x.coinsReceived + e.denom } ∧
      t.coin l = { s.coin l with tray := (s.coin l).tray ++ [⟨e.denom, g⟩] } ∧
      t.jnu = { s.jnu with totals := s.jnu.totals.addCoins .accepted e.denom 1 } ∧
      t.drives = [.gate l none] ∧
      (∀ n, t.tube n = { s.tube n with pendingIn := (s.tube n).pendingIn + if g = .tube n then 1 else 0 }) ∧
      t.lane l.other = s.lane l.other ∧ t.coin l.other = s.coin l.other ∧ t.ciu.accept = s.ciu.accept ∧
      t.ciu.boxCoins = s.ciu.boxCoins ∧ t.ciu.boxPresent = s.ciu.boxPresent ∧ t.chu.res = s.chu.res ∧
      t.chu.orders = s.chu.orders ∧ t.pru = s.pru ∧ t.crt = s.crt ∧ t.cdu = s.cdu ∧ t.dbc = s.dbc ∧ t.fcu = s.fcu ∧
      t.part = s.part ∧ t.clk = s.clk

/-- A coin that completes the price takes the lane out of PAYING in the same event, into the tray, or committed when the tray
is full: it meets the price exactly, or the change for the overpay is assured and its plan becomes the lane's reservation.
With paper delivery the ticket job takes the reserved slot. A coin whose overpay has no plan is returned NO_CHANGE with
EXACT_CHANGE declared, and nothing else changes. -/
def Obligations.FinalCoinLeavesPaying : Prop :=
  ∀ (s : State) (l : Lane) (x : Sale) (diam thick cond cls i excess : Nat) (e : AcceptFields) (g : Target), s.Settled →
    (s.coin l).audit = false → (s.lane l).state = .paying → (s.lane l).sale = some x → s.gateHeld l = false →
    (s.search l ⟨diam, thick, cond, cls, true⟩).found = some (i, e) → acceptTarget e = some g →
    x.coinsReceived + e.denom = x.price.getD 0 + excess →
    (s.pru.hold ≠ .expired → ∀ res, (excess = 0 ∧ res = s.chu.res ∨
        0 < excess ∧ ∃ p, planFor (s.limits l) excess s.chu.coinLimit = some p ∧ res = s.chu.res.set l p) →
      ∃ t y, exec (.coinRecord l diam thick cond cls true) s = .next t ∧
        (t.lane l).state = .delivering ∧ (t.lane l).timer = none ∧ (t.lane l).sale = some y ∧
        y.coinsReceived = x.coinsReceived + e.denom ∧
        y.committed = x.committed + (if (s.coin l).tray.length < 8 then 0 else e.denom) ∧
        (t.coin l).tray =
          (if (s.coin l).tray.length < 8 then (s.coin l).tray ++ [⟨e.denom, g⟩] else (s.coin l).tray) ∧
        t.drives.head? = some (.gate l (if (s.coin l).tray.length < 8 then none else some g)) ∧
        (∀ n,
          (t.tube n).pendingIn = (s.tube n).pendingIn + (if (s.coin l).tray.length < 8 ∧ g = .tube n then 1 else 0) ∧
          (t.tube n).count = (s.tube n).count + (if 8 ≤ (s.coin l).tray.length ∧ g = .tube n then 1 else 0)) ∧
        t.chu.res = res ∧ (0 < excess → Cond.exactChange l ∉ t.lki.conds) ∧
        (x.delivery = .paper → y.ticketSlot = false ∧ t.pru.reserved = s.pru.reserved.set l false ∧
          ∃ j ∈ t.pru.jobs, j.kind = .ticket ∧ j.lane = some l ∧ j.seq = x.seq) ∧
        t.lane l.other = s.lane l.other ∧ t.coin l.other = s.coin l.other) ∧
    (0 < excess → planFor (s.limits l) excess s.chu.coinLimit = none → (s.coin l).linkUp = true →
      ∃ t, exec (.coinRecord l diam thick cond cls true) s = .next t ∧
        t = { s.quiet with jnu := t.jnu, lki := t.lki } ∧
        t.jnu = { s.jnu with totals := s.jnu.totals.addReturns l .noChange 1 } ∧ t.lki.hold = s.lki.hold ∧
        ∀ c, c ∈ t.lki.conds ↔ c = .exactChange l ∨ c ∈ s.lki.conds)

/-- Coins that are not taken. Without audit a coin is returned for no sale, not in PAYING, a closed sale, a gate held closed, a
bad read, no match or a slug, and the total of the reason rises; in audit mode only a notice is given. No coin, tray, tube or
cashbox content changes. -/
def Obligations.CoinsNotTakenChangeOnlyTotals : Prop :=
  ∀ (s : State) (l : Lane) (diam thick cond cls : Nat) (good : Bool) (why : ReturnReason), s.Settled →
    (s.coin l).linkUp = true →
    ((s.coin l).audit = false →
    (s.unwanted l = some why ∨
      (s.lane l).state = .paying ∧
        ((s.gateHeld l = true ∧ why = .gateClosed) ∨ (s.gateHeld l = false ∧ good = false ∧ why = .badRead) ∨
        (s.gateHeld l = false ∧ good = true ∧
          (((s.search l ⟨diam, thick, cond, cls, good⟩).found = none ∧ why = .unknown) ∨
            ∃ i e, (s.search l ⟨diam, thick, cond, cls, good⟩).found = some (i, e) ∧ acceptTarget e = none ∧
              why = .slug)))) →
    ∃ t, exec (.coinRecord l diam thick cond cls good) s = .next t ∧
      t = { s.quiet with jnu := t.jnu, lki := t.lki } ∧
      t.jnu = { s.jnu with totals := s.jnu.totals.addReturns l why 1 } ∧ t.lki.hold = s.lki.hold) ∧
    ((s.coin l).audit = true → ∃ t, exec (.coinRecord l diam thick cond cls good) s = .next t ∧
      t = { s.quiet with lki := t.lki } ∧ t.lki.conds = s.lki.conds ∧ t.lki.hold = s.lki.hold)

/-- STATUS_RECORD and HEAD_LINK_TIMEOUT: a record with its fault flag clear is a sign of life that ends a loss; the path flag is
taken while the link is UP; after 2 s without one the link is LOST and the lane's coin path faulted. JAM_TIMER_EXPIRY declares
the jam of a path that has been BLOCKED, JAM_CLEAR_TIMER_EXPIRY clears it once the path has been CLEAR; a loss and a jam hold
the gate closed. That the record which ends a loss gives the path state too, after the link is UP, is the model's choice (log
entry 15). CASHBOX_REMOVED records the contents and empties them, and declares CASHBOX_OUT; CASHBOX_REPLACED clears it and lets a
paused release go on. With no dump under way neither changes a tube. -/
def Obligations.HeadLinkJamAndCashbox : Prop :=
  (∀ (s : State) (l : Lane), s.Settled →
    (∀ blocked fault, ∃ t, exec (.statusRecord l blocked fault) s = .next t ∧
      t = { s.quiet with ciu := t.ciu, lki := t.lki } ∧
      t.coin l = { s.coin l with
        headFault := fault
        linkUp := (s.coin l).linkUp || !fault
        blocked := if ((s.coin l).linkUp || !fault) = true then blocked else (s.coin l).blocked
        counting := (s.coin l).counting || (s.coin l).linkUp || !fault } ∧
      t.coin l.other = s.coin l.other ∧ t.ciu.boxCoins = s.ciu.boxCoins ∧ t.ciu.accept = s.ciu.accept ∧
      (∀ c, c ∈ t.lki.conds ↔ c ∈ s.lki.conds ∧
        ¬ (c = .headLost l ∧ (s.coin l).linkUp = false ∧ fault = false))) ∧
    ((s.coin l).linkUp = true → ∃ t, exec (.headLinkTimeout l) s = .next t ∧
      t = { s.quiet with ciu := t.ciu, lki := t.lki, lanes := t.lanes } ∧
      t.coin l = { s.coin l with linkUp := false, counting := false } ∧ t.coin l.other = s.coin l.other ∧
      t.ciu.accept = s.ciu.accept ∧ t.ciu.boxCoins = s.ciu.boxCoins ∧
      t.lane l = { s.lane l with coinFault := true } ∧ t.lane l.other = s.lane l.other ∧
      (∀ c, c ∈ t.lki.conds ↔ c = .headLost l ∨ c ∈ s.lki.conds) ∧ t.gateHeld l = true) ∧
    ((s.coin l).linkUp = true → (s.coin l).counting = true →
      ((s.coin l).blocked = true → (s.coin l).jam = false → ∃ t, exec (.jamTimerExpiry l) s = .next t ∧
        t = { s.quiet.setCoin l { s.coin l with jam := true } with lki := t.lki } ∧
        (∀ c, c ∈ t.lki.conds ↔ c = .coinJam l ∨ c ∈ s.lki.conds) ∧ t.gateHeld l = true) ∧
      ((s.coin l).blocked = false → (s.coin l).jam = true → ∃ t, exec (.jamClearTimerExpiry l) s = .next t ∧
        t = { s.quiet.setCoin l { s.coin l with jam := false } with lki := t.lki } ∧
        (∀ c, c ∈ t.lki.conds ↔ c ∈ s.lki.conds ∧ c ≠ .coinJam l)))) ∧
  ∀ s : State, s.Settled →
    (s.ciu.boxPresent = true → s.chu.dump = none → ∃ t, exec .cashboxRemoved s = .next t ∧
      t.ciu = { s.ciu with boxPresent := false, boxCoins := [], boxValue := 0 } ∧
      t.jnu.journal = s.jnu.journal ++ (if s.admits = true then
        [⟨s.jnu.recSeq, s.jnu.lost, s.now, .cashbox s.ciu.boxCoins s.ciu.boxValue s.now false⟩] else []) ∧
      (s.admits = false → t.jnu.incomplete = true) ∧
      (∀ c, c ∈ t.lki.conds ↔ c = .cashboxOut ∨ c ∈ s.lki.conds) ∧
      t = { s.quiet with ciu := t.ciu, jnu := t.jnu, lki := t.lki }) ∧
    (s.ciu.boxPresent = false → ∃ t, exec .cashboxReplaced s = .next t ∧
      (∀ l, t.coin l = { s.coin l with
        trayOp := if (s.coin l).trayOp = .paused then .releasing else (s.coin l).trayOp }) ∧
      t.ciu.boxPresent = true ∧ t.ciu.boxCoins = s.ciu.boxCoins ∧ t.ciu.accept = s.ciu.accept ∧
      (∀ c, c ∈ t.lki.conds ↔ c ∈ s.lki.conds ∧ c ≠ .cashboxOut) ∧
      t = { s.quiet with ciu := t.ciu, lki := t.lki })

/-! ## Escrow -/

/-- ESCROW_RELEASE_ENTRY with more entries behind: the oldest entry goes to its target, a tube or the cashbox, which
counts it, and leaves the tray; a cashbox entry with no cashbox goes to the lowest tube of its denomination with room,
and with none the release pauses and nothing moves. The last entry of a release goes to its target, a tube or the
cashbox, which counts it. With no change owed the sale closes COMPLETED or CLOSED_IN_DOUBT, its record is stored, and
a receipt it wants is queued where a slot is free; with change owed the lane enters PAYOUT and its order joins the
queue, where the first one is dispatched with the lane's reservation. An entry with nowhere to go pauses the release. -/
def Obligations.ReleaseMovesEntriesAndEnds : Prop :=
  (∀ (s : State) (l : Lane) (e f : TrayEntry) (rest : List TrayEntry), s.Settled →
    (s.coin l).trayOp = .releasing → (s.coin l).tray = e :: f :: rest →
    (∀ n, (e.target = .tube n ∨
        e.target = .cashbox ∧ s.ciu.boxPresent = false ∧ s.retarget e.denom = some n) →
      ∃ t, exec (.escrowReleaseEntry l) s = .next t ∧ (t.coin l).tray = f :: rest ∧
        (t.coin l).trayOp = .releasing ∧ (t.coin l).released = (s.coin l).released + e.denom ∧
        (t.tube n).count = (s.tube n).count + 1 ∧
        (t.tube n).pendingIn = (s.tube n).pendingIn - (if e.target = .tube n then 1 else 0) ∧
        (∀ m, m ≠ n → t.tube m = s.tube m) ∧ t.drives = [.route l (.tube n)] ∧
        t.jnu.totals = s.jnu.totals.addCoins .toTubes e.denom 1 ∧ t.jnu.journal = s.jnu.journal ∧
        t.ciu.boxCoins = s.ciu.boxCoins ∧ (t.lane l).sale = (s.lane l).sale ∧ (t.lane l).state = (s.lane l).state ∧
        t.lane l.other = s.lane l.other ∧ t.coin l.other = s.coin l.other ∧ t.chu.res = s.chu.res) ∧
    (e.target = .cashbox → s.ciu.boxPresent = true →
      ∃ t, exec (.escrowReleaseEntry l) s = .next t ∧ (t.coin l).tray = f :: rest ∧
        t.ciu.boxCoins = boxAdd e.denom s.ciu.boxCoins ∧ t.ciu.boxValue = s.ciu.boxValue + e.denom ∧
        t.drives = [.route l .cashbox] ∧ t.chu = s.chu ∧
        t.jnu.totals = s.jnu.totals.addCoins .toBox e.denom 1 ∧ (t.lane l).sale = (s.lane l).sale ∧
        t.lane l.other = s.lane l.other ∧ t.coin l.other = s.coin l.other) ∧
    (e.target = .cashbox → s.ciu.boxPresent = false → s.retarget e.denom = none →
      ∃ t, exec (.escrowReleaseEntry l) s = .next t ∧
        t = { s.quiet.setCoin l { s.coin l with trayOp := .paused } with lki := t.lki } ∧
        t.lki.conds = s.lki.conds ∧ t.lki.hold = s.lki.hold)) ∧
  (∀ (s : State) (l : Lane) (e : TrayEntry) (x : Sale), s.Settled →
    (s.coin l).trayOp = .releasing → (s.coin l).tray = [e] → (s.lane l).sale = some x →
    (∀ g, s.releaseTarget e = some g →
      (x.changeOwed = 0 → x.shortfall = 0 →
        ∃ t, exec (.escrowReleaseEntry l) s = .next t ∧ (t.lane l).state = .idle ∧ (t.lane l).sale = none ∧
          (t.coin l).tray = [] ∧ (t.coin l).trayOp = .none ∧ s.saleRecordStored t l x x.keptOutcome ∧
          (∀ n, (t.tube n).count = (s.tube n).count + if g = .tube n then 1 else 0) ∧
          t.ciu.boxCoins = (if g = .cashbox then boxAdd e.denom s.ciu.boxCoins else s.ciu.boxCoins) ∧
          t.ciu.boxValue = s.ciu.boxValue + (if g = .cashbox then e.denom else 0) ∧
          (x.receipt = false ∨ s.warned = true → t.pru.jobs = s.pru.jobs) ∧
          (x.receipt = true → s.warned = false → (s.setTicketSlot l false).pru.taken < 8 →
            ∃ j ∈ t.pru.jobs, j.kind = .receipt ∧ j.lane = some l ∧ j.seq = x.seq ∧
              j.lines.length = 8 + x.receiptLines.length) ∧
          t.lane l.other = s.lane l.other) ∧
      (0 < x.changeOwed → (s.chu.orders ≠ [] ∨ s.chu.res.get l ≠ []) →
        ∃ t, exec (.escrowReleaseEntry l) s = .next t ∧ (t.lane l).state = .payout ∧
          (t.lane l).sale = some { x with waitKind := none } ∧ (t.coin l).tray = [] ∧
          t.chu.orders = s.chu.orders ++ [⟨.change, l, x.seq, x.changeOwed, 0, 0, 0, 0, []⟩] ∧
          t.chu.res = s.chu.res ∧
          (s.chu.orders = [] → ∀ m k plan, s.chu.res.get l = (m, k) :: plan →
            t.chu.wait = some ⟨m, false⟩ ∧ Drive.route l g ∈ t.drives ∧ Drive.eject m ∈ t.drives) ∧
          (∀ n, (t.tube n).count = (s.tube n).count + if g = .tube n then 1 else 0) ∧
          t.ciu.boxCoins = (if g = .cashbox then boxAdd e.denom s.ciu.boxCoins else s.ciu.boxCoins) ∧
          t.jnu.journal = s.jnu.journal ∧ t.lane l.other = s.lane l.other)) ∧
    (s.releaseTarget e = none → ∃ t, exec (.escrowReleaseEntry l) s = .next t ∧
      t = { s.quiet.setCoin l { s.coin l with trayOp := .paused } with lki := t.lki }))

/-- ESCROW_RETURN_COMPLETE: the tray is empty, each tube's pending coins fall by its entries, the returns are counted, and the
tray value stands as escrow returned. With no committed value owed the sale closes with its noted outcome; with some owed
a REFUND order joins the queue, where the first one is dispatched with the best partial plan. That the tray, pending_in and
the totals move at this event and not at the asking is the model's choice (log entry 16). -/
def Obligations.ReturnEmptiesTheTray : Prop :=
  ∀ (s : State) (l : Lane) (x : Sale), s.Settled → (s.coin l).trayOp = .returning → (s.lane l).sale = some x →
    (x.committed ≤ x.refundPaid → x.shortfall = 0 →
      (x.receipt = false ∨ (x.refundOutcome.getD .interrupted).kept = false) →
      ∃ t, exec (.escrowReturnComplete l) s = .next t ∧ (t.lane l).state = .idle ∧ (t.lane l).sale = none ∧
        (t.coin l).tray = [] ∧ (t.coin l).trayOp = .none ∧
        (∀ n, (t.tube n).pendingIn = (s.tube n).pendingIn - bound (s.coin l).tray n ∧
          (t.tube n).count = (s.tube n).count) ∧
        s.saleRecordStored t l { x with escrowReturned := x.escrowReturned + trayValue (s.coin l).tray }
          (x.refundOutcome.getD .interrupted) ∧
        t.ciu.boxCoins = s.ciu.boxCoins ∧ t.lane l.other = s.lane l.other ∧ t.coin l.other = s.coin l.other) ∧
    (x.refundPaid < x.committed → s.chu.orders ≠ [] →
      ∃ t, exec (.escrowReturnComplete l) s = .next t ∧ (t.lane l).state = (s.lane l).state ∧
        (t.lane l).sale = some { x with escrowReturned := x.escrowReturned + trayValue (s.coin l).tray } ∧
        (t.coin l).tray = [] ∧ (t.coin l).trayOp = .none ∧
        t.chu.orders = s.chu.orders ++ [⟨.refund, l, x.seq, x.committed - x.refundPaid, 0, 0, 0, 0, []⟩] ∧
        t.jnu.journal = s.jnu.journal ∧
        t.jnu.totals = s.jnu.totals.addReturns l .escrow (s.coin l).tray.length ∧
        t.lane l.other = s.lane l.other ∧ t.coin l.other = s.coin l.other) ∧
    (x.refundPaid < x.committed → s.chu.orders = [] → ∀ paid m k plan,
      bestPartial (s.limits l) (x.committed - x.refundPaid) s.chu.coinLimit = (paid, (m, k) :: plan) →
      ∃ t, exec (.escrowReturnComplete l) s = .next t ∧ (t.lane l).state = (s.lane l).state ∧
        (t.coin l).tray = [] ∧ t.chu.res = s.chu.res.set l ((m, k) :: plan) ∧
        t.chu.orders = [⟨.refund, l, x.seq, x.committed - x.refundPaid, 0, 0, x.committed - x.refundPaid - paid,
          x.committed - x.refundPaid - paid, []⟩] ∧
        t.chu.wait = some ⟨m, false⟩ ∧ t.drives = [.eject m])

/-- IN_DOUBT_WINDOW_EXPIRY: the sale's entry becomes DETACHED and stands, the sale is bound for CLOSED_IN_DOUBT with its
entry number kept, and its escrow is released. -/
def Obligations.InDoubtWindowDetachesTheEntry : Prop :=
  ∀ (s : State) (l : Lane) (x : Sale) (n : Nat) (e : CrtEntry), s.Settled → (s.lane l).state = .cardWait →
    (s.lane l).sale = some x → x.waitKind = some .inDoubt → (s.lane l).timer ≠ none → x.entryNo = some n →
    s.crt.entry n = some e → (s.coin l).tray ≠ [] →
    ∃ t, exec (.inDoubtWindowExpiry l) s = .next t ∧ t.crt.entry n = some { e with attached := false } ∧
      (∀ m, m ≠ n → t.crt.entry m = s.crt.entry m) ∧
      (t.lane l).state = .delivering ∧ (t.lane l).timer = none ∧
      (t.lane l).sale = some { x with entryAttached := false, bound := true, waitKind := none } ∧
      (t.coin l).trayOp = .releasing ∧ t.jnu = s.jnu ∧ t.chu = s.chu ∧ t.pru = s.pru ∧ s.keepsSettings t ∧
      t.lane l.other = s.lane l.other ∧ t.coin l.other = s.coin l.other

/-! ## Tubes and payout -/

/-- TUBE_SET in SERVICE sets a tube's count and stores a TUBE record; TUBE_DUMP starts ejecting into the cashbox. -/
def Obligations.TubeSetAndDump : Prop :=
  ∀ (s : State) (lane tag i k : Nat) (n : TubeNo), s.Settled → s.lki.hold = [] → s.part = .service →
    TubeNo.ofCode i = some n → s.chu.dump = none →
    (k ≤ (s.tube n).capacity → ((s.tube n).denom = 0 → k = 0) →
      ∃ t, exec (.tubeSet lane tag i k) s = .next t ∧ (t.tube n).count = k ∧
        (t.tube n).denom = (s.tube n).denom ∧ (t.tube n).pendingIn = (s.tube n).pendingIn ∧
        (∀ m, m ≠ n → t.tube m = s.tube m) ∧ s.answered t lane tag (.tubeSet i k) .ok [] ∧
        t.jnu.journal = s.jnu.journal ++ (if s.admits = true then
          [⟨s.jnu.recSeq, s.jnu.lost, s.now,
            .tube ⟨n, (s.tube n).denom, false, (s.tube n).count, k, 0, 0, 0, s.now⟩⟩] else []) ∧
        t = { s.quiet with chu := t.chu, jnu := t.jnu, lki := t.lki } ∧ t.chu.orders = s.chu.orders ∧
        t.chu.res = s.chu.res ∧ t.jnu.totals = s.jnu.totals) ∧
    ((s.tube n).denom ≠ 0 → 1 ≤ k → k ≤ (s.tube n).count → s.ciu.boxPresent = true →
      exec (.tubeDump lane tag i k) s = .next (State.sends
        { s.quiet with
          chu := { s.chu with
            dump := some ⟨n, k, (s.tube n).count, 0, 0, 0, false⟩, wait := some ⟨n, false⟩, diverterBox := true }
          drives := [.eject n] }
        lane tag (.tubeDump i k) .ok []))

/-- The sale as a lane closes it on the completion report of its order (R21, R22, R95): the last coin of value `d` in its paid
field, and the report's shortfall and corrections. -/
def closingSale (x : Sale) (o : Order) (d : Nat) : Sale :=
  { x.addPaid o.kind d with
    shortfall := x.shortfall + (o.amount - (o.paid + d))
    corrections := x.corrections ++ o.corrections }

/-- PAYOUT_SENSOR_CONFIRM counts a coin. While the dispensing order's plan has more, the tube's count, the plan, the amount
paid and the sale's paid field move by the one coin, and the next coin of the plan is ejected; the last coin of the plan
completes the order, and its sale closes with the order's shortfall and corrections in its record. A dump's coin goes to the
cashbox, and the next is ejected or, with the number asked confirmed, the dump ends with its TUBE record; after a removal of
the cashbox the coin has gone to the cup and the dump ends. That a coin in the cup counts as paid out is the model's choice
(log entry 19). -/
def Obligations.ConfirmedCoinIsCounted : Prop :=
  (∀ (s : State) (o : Order) (rest : List Order) (n : TubeNo) (w : PayWait) (x : Sale),
    s.Settled → s.chu.dump = none → s.chu.orders = o :: rest → s.chu.wait = some w → w.tube = n →
    (s.lane o.lane).sale = some x →
    (∀ m k plan, planLess n (s.chu.res.get o.lane) = (m, k) :: plan →
      ∃ t, exec .payoutSensorConfirm s = .next t ∧ (t.tube n).count = (s.tube n).count - 1 ∧
        (∀ i, i ≠ n → t.tube i = s.tube i) ∧
        t.chu.orders = { o with paid := o.paid + (s.tube n).denom, coins := o.coins + 1 } :: rest ∧
        t.chu.res = s.chu.res.set o.lane ((m, k) :: plan) ∧ t.chu.wait = some ⟨m, false⟩ ∧ t.drives = [.eject m] ∧
        (t.lane o.lane).sale = some (x.addPaid o.kind (s.tube n).denom) ∧
        (t.lane o.lane).state = (s.lane o.lane).state ∧
        t.jnu = { s.jnu with totals := s.jnu.totals.addCoins .paidOut (s.tube n).denom 1 } ∧
        t.lane o.lane.other = s.lane o.lane.other ∧ t.ciu = s.ciu ∧ t.pru = s.pru ∧ t.crt = s.crt) ∧
    (planLess n (s.chu.res.get o.lane) = [] →
      ∃ t, exec .payoutSensorConfirm s = .next t ∧ (t.tube n).count = (s.tube n).count - 1 ∧
        (∀ i, i ≠ n → (t.tube i).count = (s.tube i).count) ∧ (t.lane o.lane).state = .idle ∧
        (t.lane o.lane).sale = none ∧
        (∃ r ∈ t.jnu.journal, r.body = .sale ((closingSale x o (s.tube n).denom).record o.lane s.now (match o.kind with
          | .change => x.keptOutcome
          | .refund => x.refundOutcome.getD .interrupted))) ∧
        (rest = [] → t.chu.orders = [] ∧ t.chu.wait = none ∧ t.lane o.lane.other = s.lane o.lane.other) ∧
        s.keepsSettings t)) ∧
  ∀ (s : State) (d : Dump) (w : PayWait), s.Settled → s.chu.dump = some d → s.chu.wait = some w →
    ∃ t, exec .payoutSensorConfirm s = .next t ∧ (t.tube d.tube).count = (s.tube d.tube).count - 1 ∧
      (∀ i, i ≠ d.tube → t.tube i = s.tube i) ∧ t.lanes = s.lanes ∧ t.chu.orders = s.chu.orders ∧
      (d.stopped = false →
        t.ciu = { s.ciu with
          boxCoins := boxAdd (s.tube d.tube).denom s.ciu.boxCoins
          boxValue := s.ciu.boxValue + (s.tube d.tube).denom } ∧
        t.jnu.totals = s.jnu.totals.addCoins .toBox (s.tube d.tube).denom 1 ∧
        (d.toBox + 1 < d.asked → t.chu.dump = some { d with toBox := d.toBox + 1 } ∧
          t.chu.wait = some ⟨d.tube, false⟩ ∧ t.drives = [.eject d.tube] ∧ t.jnu.journal = s.jnu.journal)) ∧
      (d.stopped = true → t.ciu = s.ciu ∧
        t.jnu.totals = s.jnu.totals.addCoins .paidOut (s.tube d.tube).denom 1) ∧
      (d.stopped = true ∨ d.asked ≤ d.toBox + 1 →
        t.chu.dump = none ∧ t.chu.wait = none ∧ t.chu.diverterBox = false ∧
        t.jnu.journal = s.jnu.journal ++ (if s.admits = true then
          [⟨s.jnu.recSeq, s.jnu.lost, s.now, .tube ⟨d.tube, (s.tube d.tube).denom, true, d.before,
            (s.tube d.tube).count - 1, d.toBox + (if d.stopped = true then 0 else 1),
            d.toCup + (if d.stopped = true then 1 else 0), d.written, s.now⟩⟩] else []))

/-- PAYOUT_WAIT_EXPIRY: the first wait that ends without a coin pulses the same tube once more; the second writes the tube
off: its count is 0 and no plan has a coin of it. A dump ends with the write-off, and with the first missed wait once the
cashbox has been removed. -/
def Obligations.MissedPayoutWaits : Prop :=
  ∀ (s : State) (w : PayWait), s.Settled → s.chu.wait = some w →
    (w.second = false → (∀ d, s.chu.dump = some d → d.stopped = false) →
      exec .payoutWaitExpiry s = .next { s.quiet with
        chu := { s.chu with wait := some { w with second := true } }, drives := [.eject w.tube] }) ∧
    (w.second = true → s.chu.dump = none → ∀ o rest, s.chu.orders = o :: rest →
      ∃ t, exec .payoutWaitExpiry s = .next t ∧ (t.tube w.tube).count = 0 ∧
        (∀ m, (t.tube m).denom = (s.tube m).denom ∧ (t.tube m).pendingIn = (s.tube m).pendingIn ∧
          (m ≠ w.tube → (t.tube m).count = (s.tube m).count)) ∧
        (∀ l, planAt (t.chu.res.get l) w.tube = 0) ∧ s.keepsSettings t) ∧
    (∀ d, s.chu.dump = some d → (w.second = true ∨ d.stopped = true) →
      ∃ t, exec .payoutWaitExpiry s = .next t ∧ t.chu.dump = none ∧ t.chu.wait = none ∧ t.chu.diverterBox = false ∧
        (t.tube d.tube).count = (if w.second = true then 0 else (s.tube d.tube).count) ∧
        (∀ m, m ≠ d.tube → t.tube m = s.tube m) ∧ t.drives = [] ∧ t.chu.res = s.chu.res ∧
        t.jnu.journal = s.jnu.journal ++ (if s.admits = true then
          [⟨s.jnu.recSeq, s.jnu.lost, s.now, .tube ⟨d.tube, (s.tube d.tube).denom, true, d.before,
            (if w.second = true then 0 else (s.tube d.tube).count), d.toBox, d.toCup,
            d.written + (if w.second = true then (s.tube d.tube).count else 0), s.now⟩⟩] else []) ∧
        s.keepsSettings t)

/-! ## Recovery table -/

/-- RECOVERY_DROP in SERVICE removes an entry with an ABANDONED record, where the journal admits it, and its reply carries the
entry's fields, the pass slot image as the block composed for it (the model's choice, log entry 25). RECOVERY_EXPIRY_RETRY at a
minute does the same to a DETACHED entry whose expiry waits and whose serial is under no claim, when no other entry is due; at
any other second it changes nothing. -/
def Obligations.RecoveryEntriesAreAbandoned : Prop :=
  ∀ (s : State) (n : Nat) (e : CrtEntry), s.Settled →
    (∀ lane tag, s.lki.hold = [] → s.part = .service → n ≤ 15 → s.crt.entry n = some e →
      (s.admits = true → ∃ t, exec (.recoveryDrop lane tag n) s = .next t ∧ t.crt.entry n = none ∧
        (∀ m, m ≠ n → t.crt.entry m = s.crt.entry m) ∧ s.answered t lane tag (.recoveryDrop n) .ok (e.dropBytes n) ∧
        t.jnu.journal = s.jnu.journal ++ [⟨s.jnu.recSeq, s.jnu.lost, s.now,
          .recovery (s.recoveryRecord n e none none .abandoned none)⟩] ∧
        t.lanes = s.lanes ∧ t.ciu = s.ciu ∧ t.chu = s.chu ∧ t.pru = s.pru ∧ t.part = s.part) ∧
      (s.admits = false →
        exec (.recoveryDrop lane tag n) s = .next (s.quiet.sends lane tag (.recoveryDrop n) .journalFull []))) ∧
    (s.minute = true → s.crt.entries.length = 16 → s.crt.entry n = some e → e.expiryPending = true →
      e.attached = false → s.crt.claimed e.serial = false → s.admits = true →
      (∀ m f, m ≠ n → s.crt.entry m = some f →
        f.attached = true ∨ f.expiryPending = false ∧ f.expired s.timers.holdDays s.clk.day = false) →
      ∃ t, exec .recoveryExpiryRetry s = .next t ∧ t.crt.entry n = none ∧
        (∀ m, m ≠ n → t.crt.entry m = s.crt.entry m) ∧
        t.jnu.journal = s.jnu.journal ++ [⟨s.jnu.recSeq, s.jnu.lost, s.now,
          .recovery (s.recoveryRecord n e none none .abandoned none)⟩] ∧
        t.lanes = s.lanes ∧ t.ciu = s.ciu ∧ t.chu = s.chu ∧ t.pru = s.pru ∧ t.clk = s.clk) ∧
    (s.minute = false → exec .recoveryExpiryRetry s = .next s.quiet)

/-- The active copy, the balance, the counter and the target copy that two purse copies give; the verdict of a resolution
from them; and Law 9 for a re-application: it is made only with the active counter one below the entry's and a balance within
Bmax. -/
def Obligations.PurseViewAndResolutionVerdict : Prop :=
  (∀ (bs : List Block), ∀ a b : PurseCopy, a = purseFields (blockAt bs 1) → b = purseFields (blockAt bs 2) →
    (copyTag (blockAt bs 1) = .valid → copyTag (blockAt bs 2) = .valid → a.counter < b.counter →
      purseView bs = ⟨some b.balance, some b.counter, some 1, false⟩) ∧
    (copyTag (blockAt bs 1) = .valid → copyTag (blockAt bs 2) = .valid → b.counter ≤ a.counter →
      purseView bs = ⟨some a.balance, some a.counter, some 2, false⟩) ∧
    (copyTag (blockAt bs 1) = .valid → copyTag (blockAt bs 2) ≠ .valid →
      purseView bs = ⟨some a.balance, some a.counter, some 2, false⟩) ∧
    (copyTag (blockAt bs 1) ≠ .valid → copyTag (blockAt bs 2) = .valid →
      purseView bs = ⟨some b.balance, some b.counter, some 1, false⟩) ∧
    (copyTag (blockAt bs 1) = .empty → copyTag (blockAt bs 2) = .empty →
      purseView bs = ⟨some 0, some 0, some 1, true⟩) ∧
    (copyTag (blockAt bs 1) = .invalid → copyTag (blockAt bs 2) ≠ .valid →
      purseView bs = ⟨none, none, none, false⟩) ∧
    (copyTag (blockAt bs 1) = .empty → copyTag (blockAt bs 2) = .invalid →
      purseView bs = ⟨none, none, none, false⟩)) ∧
  ∀ (e : CrtEntry) (bs : List Block) (bmax : Nat),
    ((purseView bs).counter = none → e.judge bs bmax = .conflict .unknownBalance) ∧
    (∀ c, (purseView bs).counter = some c →
      (e.judge bs bmax = .landed ↔ c = e.expected) ∧
      (e.judge bs bmax = .conflict .overLimit ↔ c + 1 = e.expected ∧ bmax < e.balance) ∧
      (e.judge bs bmax = .notLanded ↔ c + 1 = e.expected ∧ e.balance ≤ bmax) ∧
      (e.judge bs bmax = .conflict .counter ↔ c ≠ e.expected ∧ c + 1 ≠ e.expected)) ∧
    (∀ w, e.judge bs bmax = .notLanded → e.sequence bs = some w →
      w.purse = purseBlock e.balance e.expected e.lane e.day ∧ e.balance ≤ bmax ∧
      (purseView bs).counter = some (e.expected - 1) ∧ (purseView bs).target = some w.target)

/-! ## Card sessions -/

/-- The SALE notice of a sale refused at the card, with its reason (R8, R10). -/
def refusedNotice (l : Lane) (x : Sale) (why : Option CardRefusal) : Notice :=
  .sale l x.seq .idle x.price x.coinsReceived x.conds none (some .refusedAtCard) why

/-- A response of a front-end that carries neither a card nor its data: NO_CARD and CARD_ERROR. -/
def cardMissing : Response → Bool
  | .noCard => true
  | .cardError => true
  | _ => false

/-- RESPONSE_RECEIVED to a BLOCK_READ. A block joins the read and the next one is asked for; block 0 with another serial, an
empty or damaged block 0, NO_CARD and CARD_ERROR discard the read and polling goes on. With the seventh block an ENQUIRY gives
its CARD notice and ends. For SALE_READ the read becomes the priced image, its serial stands in the sale, HALT is asked for, and
the card and the price are checked: the first check that fails closes the sale REFUSED_AT_CARD with its reason, its condition
set and, where it was priced, the zones priced; otherwise the sale carries the priced answer and the chosen slot, and the lane
enters PAYING for coins and DELIVERING for CARD_VALUE or a price of 0. That HALT is asked for although the purpose ends in the same
event (the ENQUIRY reported, the sale refused, or PAYING entered) is the model's choice (log entry 61). -/
def Obligations.CardReadGivesItsImage : Prop :=
  ∀ (s : State) (l : Lane) (bytes : List Byte) (id : Serial), (s.session l).serial = some id →
    (∀ r, cardMissing r = true ∨ (∃ b, r = .block b ∧ (s.session l).current = [] ∧ blockSerial b ≠ some id) →
      s.FrontEndAnswers l .read bytes r → (s.session l).res = none → (s.session l).purpose ≠ .delivery →
      ∃ t, exec (.responseReceived bytes) s = .next t ∧ s.sessionOnly t l ∧
        t.session l = { s.session l with
          use := none, phase := .polling, serial := none, current := [], pendingAt := none }) ∧
    ∀ b bs, s.FrontEndAnswers l .read bytes (.block b) → bs = (s.session l).current ++ [b] →
      (bs.length < 7 → ((s.session l).current = [] → blockSerial b = some id) →
        ∃ t, exec (.responseReceived bytes) s = .next t ∧ s.sessionOnly t l ∧
          t.session l = { s.session l with use := some .read, current := bs } ∧
          t.asksCard l .read (.blockRead bs.length)) ∧
      (bs.length = 7 → (s.session l).res = none → (s.session l).purpose = .enquiry → (s.lane l).sale = none →
        s.lki.notices.length < 32 → s.lki.tx ≠ none →
        ∃ t, exec (.responseReceived bytes) s = .next t ∧ s.cardOnly t l ∧
          t.lane l = { s.lane l with state := .idle, timer := none } ∧
          t.lki.notices = s.lki.notices ++ [.card l (some (cardReport id bs s.clk.day (s.session l).pendingAt))] ∧
          t.asksCard l .halt .halt ∧ (t.session l).purpose ≠ .enquiry ∧ t.crt.entries = s.crt.entries) ∧
      (bs.length = 7 → (s.session l).res = none → (s.session l).purpose = .saleRead → (s.lane l).state = .awaitCard →
        ∀ x y img k, (s.lane l).sale = some x → x.shortfall = 0 → y = { x with serial := some id } →
          img = ⟨bs, chosenSlot bs s.clk.day (s.crt.names id)⟩ → k = (purseView bs).balance →
          (∀ z why, (y.cardCheck img = some why ∧ z = y) ∨
              (y.cardCheck img = none ∧ ∃ q, s.priceAtCard y k = .priced q ∧ y.compareCheck k q.price = some why ∧
                z = { y with conds := q.conds, zonesPriced := q.zones }) →
            s.lki.notices.length < 20 → s.lki.tx ≠ none →
            ∃ t, exec (.responseReceived bytes) s = .next t ∧ s.ClosedAtOnce t l z .refusedAtCard ∧
              refusedNotice l z (some why) ∈ t.lki.notices ∧ t.asksCard l .halt .halt) ∧
          (∀ code c, y.cardCheck img = none → s.priceAtCard y k = .refused code c →
            s.lki.notices.length < 20 → s.lki.tx ≠ none →
            ∃ t, exec (.responseReceived bytes) s = .next t ∧ s.ClosedAtOnce t l { y with conds := c } .refusedAtCard ∧
              refusedNotice l { y with conds := c } code.atCard ∈ t.lki.notices ∧ t.asksCard l .halt .halt) ∧
          (∀ q z, y.cardCheck img = none → s.priceAtCard y k = .priced q → y.compareCheck k q.price = none →
            z = { y.priced q (if y.kind = .pass then img.chosen else none) with waitKind := none } →
            (x.payment = .coins → 0 < q.price →
              ∃ t, exec (.responseReceived bytes) s = .next t ∧ s.cardOnly t l ∧ (t.lane l).state = .paying ∧
                (t.lane l).timer = some s.timers.inactivity ∧ (t.lane l).sale = some z ∧
                (t.session l).priced = some img ∧ (t.session l).purpose = .none ∧ t.asksCard l .halt .halt ∧
                t.jnu = s.jnu ∧ t.crt.entries = s.crt.entries) ∧
            (x.payment = .cardValue ∨ q.price = 0 → x.delivery = .card →
              ∃ t, exec (.responseReceived bytes) s = .next t ∧ s.cardOnly t l ∧ (t.lane l).state = .delivering ∧
                (t.lane l).timer = none ∧ (t.lane l).sale = some z ∧ (t.session l).priced = some img ∧
                (t.session l).purpose = .delivery ∧ (t.session l).phase = .ending ∧ t.asksCard l .halt .halt ∧
                t.jnu = s.jnu ∧ t.crt.entries = s.crt.entries)))

/-- RESPONSE_RECEIVED in DELIVERING, before any write. The sale's card answering a poll with no entry and no claim for it sets
the lane's claim and is read again from block 1, the lane back in DELIVERING; no card, or another serial with its CARD_MISMATCH
notice, takes the lane from DELIVERING to CARD_WAIT (PRE_WRITE), and so does a read that fails. The re-read that agrees with the
priced image creates the sale's ATTACHED entry from its reservation, ends the claim and asks for the first write; one that
differs, or a DETACHED entry for the card, fails the delivery CARD_CHANGED with no write and no entry, and the sale is refunded.
That the refund then follows from CARD_WAIT without DELIVERING between is the model's choice (log entry 45), and so are HALT, which
is asked for although the refund ends the purpose in the same event (log entry 61), the order of the refund's effects (log entry
16), and CARD_MISMATCH in CARD_WAIT (IN_DOUBT) as well (log entry 20). -/
def Obligations.CardDeliveryReadsTheCardAgain : Prop :=
  ∀ (s : State) (l : Lane) (bytes : List Byte) (x : Sale) (id : Serial), (s.lane l).sale = some x → x.serial = some id →
    x.delivered = false → (s.session l).purpose = .delivery → (s.session l).res = none →
    (s.FrontEndAnswers l .poll bytes (.serial id) → s.entryCheck l id = .none → (s.session l).firstBlock.length = 1 →
      ((s.lane l).state = .delivering ∨ (s.lane l).state = .cardWait ∧ x.waitKind = some .preWrite) →
      ∃ t, exec (.responseReceived bytes) s = .next t ∧ s.cardOnly t l ∧ (t.lane l).state = .delivering ∧
        ((s.lane l).state = .cardWait → (t.lane l).timer = none ∧ (t.lane l).sale = some { x with waitKind := none }) ∧
        ((s.lane l).state = .delivering → t.lane l = s.lane l) ∧
        t.crt = { s.crt with claims := s.crt.claims.set l (some id) } ∧
        t.session l = { s.session l with
          use := some .read, phase := .reading, serial := some id, current := (s.session l).firstBlock
          pendingAt := none } ∧
        t.asksCard l .read (.blockRead 1)) ∧
    (∀ r, cardMissing r = true ∨ (∃ y, r = .serial y ∧ y ≠ id) → s.FrontEndAnswers l .poll bytes r →
      s.lki.notices.length < 31 → s.lki.tx ≠ none →
      (s.lane l).state = .delivering ∨ (s.lane l).state = .cardWait →
      ∃ t, exec (.responseReceived bytes) s = .next t ∧ s.cardOnly t l ∧ t.crt = s.crt ∧
        t.session l = { s.session l with use := none } ∧
        (∀ y, r = .serial y → Notice.cardMismatch l id y ∈ t.lki.notices) ∧
        ((s.lane l).state = .delivering → s.WaitBegun t l x .preWrite) ∧
        ((s.lane l).state = .cardWait → t.lane l = s.lane l)) ∧
    (∀ n, s.FrontEndAnswers l .poll bytes (.serial id) → s.entryCheck l id = .detached n →
      ((s.lane l).state = .delivering ∨ (s.lane l).state = .cardWait ∧ x.waitKind = some .preWrite) →
      s.lki.notices.length < 20 → s.lki.tx ≠ none →
      ∃ t, exec (.responseReceived bytes) s = .next t ∧ s.DeliveryFails t l x ∧
        ((s.coin l).tray ≠ [] → s.RefundBegun t l x .deliveryFailed) ∧
        t.crt.claims.get l = none ∧ t.crt.entries = s.crt.entries ∧ t.asksCard l .halt .halt ∧
        Notice.cardWrite l (some x.seq) id .failed (some .cardChanged) 0 none ∈ t.lki.notices) ∧
    ((s.session l).serial = some id → (s.lane l).state = .delivering →
      (∀ r, cardMissing r = true → s.FrontEndAnswers l .read bytes r →
        ∃ t, exec (.responseReceived bytes) s = .next t ∧ s.cardOnly t l ∧ s.WaitBegun t l x .preWrite ∧
          t.crt = { s.crt with claims := s.crt.claims.set l none } ∧
          t.session l = { s.session l with
            use := none, phase := .polling, serial := none, current := [], pendingAt := none }) ∧
      ∀ b bs img, s.FrontEndAnswers l .read bytes (.block b) → bs = (s.session l).current ++ [b] → bs.length = 7 →
        (s.session l).priced = some img →
        (bs.drop 1 = img.blocks.drop 1 → ∀ n c k w m blk rest, s.creation l id = some n →
          (purseView bs).counter = some c → (purseView bs).target = some k →
          w = WriteSeq.make ((x.slotImage (c + 1)).map fun y => (y.1, slotBlock y.2))
            (purseBlock x.purse (c + 1) l s.clk.day) k (clearing bs x.slot) → w.todo = (m, blk) :: rest →
          ∃ t, exec (.responseReceived bytes) s = .next t ∧ s.cardOnly t l ∧ (t.lane l).state = .delivering ∧
            (t.lane l).timer = (s.lane l).timer ∧
            (t.lane l).sale = some { x with entryNo := some n, entryAttached := true, recoveryRes := false } ∧
            t.crt = { s.crt with
              entries := s.crt.entries.set n (some (s.entryOf l x id (c + 1)))
              reserved := s.crt.reserved.set l false
              claims := s.crt.claims.set l none } ∧
            t.session l = { s.session l with
              use := some .write, phase := .writing, current := bs, readDay := s.clk.day
              write := some { w with issued := 1 } } ∧
            t.asksCard l .write (.blockWrite m blk)) ∧
        (bs.drop 1 ≠ img.blocks.drop 1 → s.lki.notices.length < 20 → s.lki.tx ≠ none →
          ∃ t, exec (.responseReceived bytes) s = .next t ∧ s.DeliveryFails t l x ∧
            ((s.coin l).tray ≠ [] → s.RefundBegun t l x .deliveryFailed) ∧
            t.crt.claims.get l = none ∧ t.crt.entries = s.crt.entries ∧ t.asksCard l .halt .halt ∧
            Notice.cardWrite l (some x.seq) id .failed (some .cardChanged) 0 none ∈ t.lki.notices))

/-- RESPONSE_RECEIVED in a write sequence. A write that ends OK asks for the next one, and the last one for the read-back of the
target copy. A write or a read-back that ends otherwise, and a read-back that differs from the purse image, end the sequence in
doubt: CARD_WAIT (IN_DOUBT) for the card window, the entry standing, the images kept, a CARD_WRITE notice with the cause and the
writes issued, and polling again without HALT. A read-back that agrees verifies it: the entry is removed, the credit of a TOPUP
counted, HALT asked for, and the tray released, or the sale closed COMPLETED where there is none. That HALT is asked for although
that close ends the purpose in the same event is the model's choice (log entry 61), and so is it that the DELIVERY purpose otherwise
stands in ENDING until the HALT's result (log entry 21). -/
def Obligations.CardWritesEndVerifiedOrInDoubt : Prop :=
  ∀ (s : State) (l : Lane) (bytes : List Byte) (w : WriteSeq), (s.session l).write = some w →
    (s.FrontEndAnswers l .write bytes .done →
      (∀ a m blk rest, w.todo = a :: (m, blk) :: rest →
        ∃ t, exec (.responseReceived bytes) s = .next t ∧ s.sessionOnly t l ∧
          t.session l = { s.session l with
            use := some .write, phase := .writing
            write := some { w with todo := (m, blk) :: rest, issued := w.issued + 1 } } ∧
          t.asksCard l .write (.blockWrite m blk)) ∧
      (∀ a, w.todo = [a] →
        ∃ t, exec (.responseReceived bytes) s = .next t ∧ s.sessionOnly t l ∧
          t.session l = { s.session l with
            use := some .readBack, phase := .writing, write := some { w with todo := [] } } ∧
          t.asksCard l .readBack (.blockRead w.target))) ∧
    ∀ x id, (s.lane l).sale = some x → (s.session l).serial = some id → x.delivered = false →
      ((s.lane l).state = .delivering ∨ (s.lane l).state = .cardWait) → (s.session l).res = none →
      (s.session l).purpose = .delivery → s.lki.tx ≠ none → s.lki.notices.length < 20 →
      (∀ u r cause, (u = .write ∨ u = .readBack) → s.FrontEndAnswers l u bytes r →
        (r = .noCard ∧ cause = .noCard ∨ r = .cardError ∧ cause = .cardError ∨
          ∃ b, u = .readBack ∧ r = .block b ∧ b ≠ w.purse ∧ cause = .readbackMismatch) →
        ∃ t, exec (.responseReceived bytes) s = .next t ∧ s.cardOnly t l ∧ s.WaitBegun t l x .inDoubt ∧ t.crt = s.crt ∧
          t.session l = { s.session l with
            use := none, phase := .polling, serial := none, current := [], pendingAt := none } ∧
          Notice.cardWrite l (some x.seq) id .inDoubt (some cause) w.issued x.entryNo ∈ t.lki.notices) ∧
      (∀ n e y, s.FrontEndAnswers l .readBack bytes (.block w.purse) → x.entryNo = some n → s.crt.entry n = some e →
        y = { x.noEntry with verified := true } →
        ∃ t, exec (.responseReceived bytes) s = .next t ∧ s.Delivered t l y ∧
          t.crt.entries = s.crt.entries.set n none ∧ t.asksCard l .halt .halt ∧
          Notice.cardWrite l (some x.seq) id .verified none w.issued none ∈ t.lki.notices ∧
          ((s.coin l).tray ≠ [] → t.jnu = { s.jnu with
              totals := if e.kind = .topup then s.jnu.totals.addCredit e.credit else s.jnu.totals } ∧
            (t.session l).purpose = .delivery ∧ (t.session l).phase = .ending))

/-- Resolutions. A DETACHED entry found by a poll for SALE_READ, ENQUIRY or IDLE_SCAN is taken up with a journal hold and the
lane's claim, and the card is read; without a place in the journal it is deferred, with a RECOVERY notice the first time. Its
end by LANDED or CONFLICT at the read, or APPLIED at the read-back of its images, removes the entry, stores its RECOVERY record,
gives up the hold and the claim and asks for HALT; NOT_LANDED writes the entry's images again; a read that fails, or images in
doubt again, give up the hold and the claim and leave the entry. An ATTACHED entry is resolved at its own lane in CARD_WAIT: LANDED
and APPLIED verify the delivery, CONFLICT binds the sale for CLOSED_IN_DOUBT, the entry is removed and the tray released; in doubt
again the lane waits for another card window. That HALT is asked for after a verdict although the purpose ends in the same event is
the model's choice (log entry 61), and so is it that none is asked for after a read that fails or images in doubt again (log
entry 21). -/
def Obligations.ResolutionsEndWithTheirVerdict : Prop :=
  ∀ (s : State) (l : Lane) (bytes : List Byte) (id : Serial),
    (∀ n e, s.FrontEndAnswers l .poll bytes (.serial id) → s.entryCheck l id = .detached n → s.crt.entry n = some e →
      ((s.session l).purpose = .saleRead ∨ (s.lane l).sale = none ∧
        ((s.session l).purpose = .enquiry ∨ (s.session l).purpose = .idleScan)) →
      (s.admits = true →
        ∃ t, exec (.responseReceived bytes) s = .next t ∧ s.cardOnly t l ∧
          (t.lane l).state = (if (s.session l).purpose = .saleRead then (s.lane l).state else .recovering) ∧
          (t.lane l).timer = (s.lane l).timer ∧ (t.lane l).sale = (s.lane l).sale ∧
          t.crt = { s.crt with claims := s.crt.claims.set l (some id) } ∧
          t.session l = { s.session l with
            use := some .read, phase := .reading, serial := some id, current := [], pendingAt := none
            res := some ⟨n, true, true, false, none⟩ } ∧
          t.asksCard l .read (.blockRead 0)) ∧
      (s.admits = false → s.lki.tx ≠ none → s.lki.notices.length < 32 → (s.session l).res = none →
        ∃ t, exec (.responseReceived bytes) s = .next t ∧ t.lanes = s.lanes ∧ t.jnu = s.jnu ∧
          t.session l = { s.session l with use := none } ∧
          t.crt = { s.crt with entries := s.crt.entries.set n (some { e with deferralReported := true }) } ∧
          t.lki.notices = s.lki.notices ++
            (if e.deferralReported = true then [] else [.recovery (some l) n .deferred]))) ∧
    (∀ r e, (s.session l).res = some r → s.crt.entry r.entry = some e → (s.session l).serial = some id →
      (∀ b bs c, s.FrontEndAnswers l .read bytes (.block b) → bs = (s.session l).current ++ [b] → bs.length = 7 →
        c = (purseView bs).counter →
        (r.detached = true → ∀ v cause, (e.judge bs s.fcu.bmax = .landed ∧ v = .landed ∧ cause = none) ∨
            (∃ why, e.judge bs s.fcu.bmax = .conflict why ∧ v = .conflict ∧ cause = some why) →
          ∃ t, exec (.responseReceived bytes) s = .next t ∧ t.crt.entries = s.crt.entries.set r.entry none ∧
            t.crt.claims.get l = none ∧ (t.session l).res = none ∧ t.asksCard l .halt .halt ∧
            s.recordStored t (.recovery (s.recoveryRecord r.entry e (some l) c v cause)) ∧
            t.lane l.other = s.lane l.other ∧
            (s.lki.tx ≠ none → s.lki.notices.length < 20 → Notice.recovery (some l) r.entry v ∈ t.lki.notices) ∧
            ((s.session l).purpose = .idleScan → r.aside = false → (s.lane l).sale = none →
              (t.lane l).state = .idle ∧ t.jnu.totals =
                (if v = .landed ∧ e.kind = .topup then s.jnu.totals.addCredit e.credit else s.jnu.totals))) ∧
        (e.judge bs s.fcu.bmax = .notLanded → ∀ w m blk rest, e.sequence bs = some w → w.todo = (m, blk) :: rest →
          ∃ t, exec (.responseReceived bytes) s = .next t ∧ s.cardOnly t l ∧ t.crt = s.crt ∧ t.lki = s.lki ∧
            (t.lane l).state = (s.lane l).state ∧ (t.lane l).timer = (s.lane l).timer ∧
            t.session l = { s.session l with
              use := some .write, phase := .writing, current := bs, readDay := s.clk.day
              write := some { w with issued := 1 }, res := some { r with counter := c } } ∧
            t.asksCard l .write (.blockWrite m blk))) ∧
      (∀ w, (s.session l).write = some w → s.FrontEndAnswers l .readBack bytes (.block w.purse) → r.detached = true →
        ∃ t, exec (.responseReceived bytes) s = .next t ∧ t.crt.entries = s.crt.entries.set r.entry none ∧
          t.crt.claims.get l = none ∧ (t.session l).res = none ∧ t.asksCard l .halt .halt ∧
          s.recordStored t (.recovery (s.recoveryRecord r.entry e (some l) r.counter .applied none)) ∧
          t.lane l.other = s.lane l.other ∧
          (s.lki.tx ≠ none → s.lki.notices.length < 20 → Notice.recovery (some l) r.entry .applied ∈ t.lki.notices)) ∧
      (r.detached = true →
        (∀ y, cardMissing y = true → s.FrontEndAnswers l .read bytes y →
          ∃ t, exec (.responseReceived bytes) s = .next t ∧ s.cardOnly t l ∧
            t.crt = { s.crt with claims := s.crt.claims.set l none } ∧ (t.session l).res = none ∧
            (t.session l).use = none ∧
            (r.aside = false → (s.session l).purpose = .idleScan → (s.lane l).sale = none →
              (t.lane l).state = .idle)) ∧
        (∀ w y, (s.session l).write = some w → cardMissing y = true → s.FrontEndAnswers l .write bytes y →
          ∃ t, exec (.responseReceived bytes) s = .next t ∧ s.cardOnly t l ∧
            t.crt = { s.crt with
              entries := s.crt.entries.set r.entry (some { e with deferralReported := false })
              claims := s.crt.claims.set l none } ∧
            (t.session l).res = none ∧ (t.session l).use = none ∧
            (r.aside = false → (s.session l).purpose = .idleScan → (s.lane l).sale = none →
              (t.lane l).state = .idle)))) ∧
    ∀ x, (s.lane l).sale = some x → x.delivered = false → (s.lane l).state = .cardWait → x.waitKind = some .inDoubt →
      (s.session l).purpose = .delivery →
      (∀ n, x.serial = some id → s.FrontEndAnswers l .poll bytes (.serial id) → s.entryCheck l id = .attached l →
        s.crt.find id = some n →
        ∃ t, exec (.responseReceived bytes) s = .next t ∧ s.sessionOnly t l ∧
          t.session l = { s.session l with
            use := some .read, phase := .reading, serial := some id, current := (s.session l).firstBlock
            pendingAt := none, res := some ⟨n, false, false, false, none⟩ } ∧
          t.asksCard l .read (.blockRead (s.session l).firstBlock.length)) ∧
      ∀ r e, (s.session l).res = some r → r.detached = false → s.crt.entry r.entry = some e →
        (s.session l).serial = some id →
        (∀ b bs, s.FrontEndAnswers l .read bytes (.block b) → bs = (s.session l).current ++ [b] → bs.length = 7 →
          (e.judge bs s.fcu.bmax = .landed →
            ∃ t, exec (.responseReceived bytes) s = .next t ∧ s.Delivered t l { x.noEntry with verified := true } ∧
              t.crt.entries = s.crt.entries.set r.entry none ∧ (t.session l).res = none ∧
              ((s.coin l).tray ≠ [] → t.jnu = { s.jnu with
                totals := if e.kind = .topup then s.jnu.totals.addCredit e.credit else s.jnu.totals }) ∧
              t.asksCard l .halt .halt) ∧
          (∀ why, e.judge bs s.fcu.bmax = .conflict why →
            ∃ t, exec (.responseReceived bytes) s = .next t ∧ s.Delivered t l { x.noEntry with bound := true } ∧
              t.crt.entries = s.crt.entries.set r.entry none ∧ (t.session l).res = none ∧
              ((s.coin l).tray ≠ [] → t.jnu = s.jnu) ∧ t.asksCard l .halt .halt)) ∧
        ∀ w, (s.session l).write = some w →
          (s.FrontEndAnswers l .readBack bytes (.block w.purse) →
            ∃ t, exec (.responseReceived bytes) s = .next t ∧ s.Delivered t l { x.noEntry with verified := true } ∧
              t.crt.entries = s.crt.entries.set r.entry none ∧ (t.session l).res = none ∧
              ((s.coin l).tray ≠ [] → t.jnu = { s.jnu with
                totals := if e.kind = .topup then s.jnu.totals.addCredit e.credit else s.jnu.totals }) ∧
              t.asksCard l .halt .halt) ∧
          (∀ y, cardMissing y = true → s.FrontEndAnswers l .write bytes y →
            ∃ t, exec (.responseReceived bytes) s = .next t ∧ s.cardOnly t l ∧ s.WaitBegun t l x .inDoubt ∧
              t.crt = s.crt ∧ (t.session l).res = none ∧ (t.session l).phase = .polling)

/-! ## Device bus and printer -/

/-- CARD_POLL_TIMER asks for a FIELD_POLL in POLLING with nothing outstanding: a free bus grants it at once, and otherwise it
waits. REQUEST_SENT sets the device's deadline; READY_LOW and READY_RISE end the wait for READY once it was low. READY_LOW
with no exchange in progress comes from a device that is not selected, and READY is then seen low at the next grant. That
READY_LOW during an exchange is taken as the selected device's is the model's choice (log entry 22). -/
def Obligations.PollAndExchangePhases : Prop :=
  ∀ s : State, s.Settled →
    (∀ l, (s.session l).phase = .polling → (s.session l).purpose ≠ .none → (s.session l).use = none →
      ((s.lane l).cardFault = false ∨ (s.session l).purpose = .delivery) →
      ∃ t, exec (.cardPollTimer l) s = .next t ∧ t.cdu = s.cdu.set l { s.session l with use := some .poll } ∧
        (if s.dbc.current = none ∧ s.dbc.noneWaiting = true then
          t.dbc = { s.dbc with
            current := some ⟨Dev.ofLane l, .fieldPoll, .sending, none, !s.dbc.readyHigh⟩
            waiting := s.dbc.waiting.set (Dev.ofLane l) none
            pointer := some (Dev.ofLane l) } ∧ t.drives = [.select (Dev.ofLane l)]
        else t.dbc = { s.dbc with waiting := s.dbc.waiting.set (Dev.ofLane l) (some .fieldPoll) } ∧ t.drives = []) ∧
        t = { s with cdu := t.cdu, dbc := t.dbc, drives := t.drives }) ∧
    (∀ e, s.dbc.current = some e → e.phase = .sending →
      exec .requestSent s = .next { s.quiet with dbc := { s.dbc with current := some { e with
        deadline := some (if e.dev = .printer then 250 else 30)
        phase := if e.seenLow = true ∧ s.dbc.readyHigh = true then .receiving else .waitingReady } } }) ∧
    (∀ e, s.dbc.current = some e →
      exec .readyLow s = .next { s.quiet with dbc := { s.dbc with
        readyHigh := false, current := some { e with seenLow := true } } }) ∧
    (s.dbc.current = none →
      exec .readyLow s = .next { s.quiet with dbc := { s.dbc with readyHigh := false, heldLow := true } }) ∧
    (∀ e, s.dbc.current = some e → e.phase = .waitingReady → e.seenLow = true →
      exec .readyRise s = .next { s.quiet with dbc := { s.dbc with
        readyHigh := true, heldLow := false, current := some { e with phase := .receiving } } })

/-- The end of an exchange, at RESPONSE_DEADLINE or with a response: the select is released, the device's last result and
failure count stand as its end says, a failure counts up to 3 and a success clears the count. -/
def Obligations.ExchangeEndCountsFailures : Prop :=
  ∀ (s : State) (e : Exchange), s.dbc.current = some e → e.phase = .waitingReady ∨ e.phase = .receiving →
    (e.phase = .waitingReady → ∃ t, exec .responseDeadline s = .next t ∧ Drive.deselect e.dev ∈ t.drives ∧
      t.dbc.last = s.dbc.last.set e.dev .timeout ∧
      t.dbc.counts = s.dbc.counts.set e.dev (min (s.dbc.counts.get e.dev + 1) 3) ∧ s.keepsSettings t ∧
      ∀ n, (t.tube n).count = (s.tube n).count) ∧
    (e.phase = .receiving → ∀ bytes, e.req.judge bytes = none →
      ∃ t, exec (.responseReceived bytes) s = .next t ∧ Drive.deselect e.dev ∈ t.drives ∧
        t.dbc.last = s.dbc.last.set e.dev .frameError ∧
        t.dbc.counts = s.dbc.counts.set e.dev (min (s.dbc.counts.get e.dev + 1) 3) ∧ s.keepsSettings t ∧
        ∀ n, (t.tube n).count = (s.tube n).count) ∧
    (e.phase = .receiving → ∀ bytes r, e.req.judge bytes = some r →
      ∃ t, exec (.responseReceived bytes) s = .next t ∧ Drive.deselect e.dev ∈ t.drives ∧
        t.dbc.last = s.dbc.last.set e.dev (ExOutcome.success r).last ∧ t.dbc.counts = s.dbc.counts.set e.dev 0 ∧
        s.keepsSettings t ∧ ∀ n, (t.tube n).count = (s.tube n).count)

/-- A PRINTER_STATUS response with no job in the slots decides the printer state: OFFLINE with the cover open, PAPER_OUT
without paper, and READY otherwise; and nothing of the lanes, the tubes or the journal changes. PRINTER_STATUS_TIMER asks for a
PRINTER_STATUS while the printer is stopped, or READY with nothing queued, and no exchange is outstanding; TICKET_HOLD_EXPIRY
ends every queued ticket; PAPER_LOADED fills the roll, looks at PAPER_LOW again and asks for the printer's status. That PAPER_LOW
is looked at before that status comes is the model's choice (log entry 57), and so is PAPER_OUT from OFFLINE (log entry 66). -/
def Obligations.PrinterStatusTimersAndPaper : Prop :=
  (∀ (s : State) (e : Exchange) (bytes : List Byte) (p : Paper) (c : Cover), s.Settled → s.part ≠ .quiesced →
    s.dbc.current = some e → e.dev = .printer → e.req = .printerStatus → e.phase = .receiving →
    s.pru.use = some .status → s.pru.jobs = [] → s.pru.statusWanted = false →
    BusReq.judge .printerStatus bytes = some (.paper p c) →
    ∃ t, exec (.responseReceived bytes) s = .next t ∧ t.pru.paper = some p ∧ t.pru.cover = some c ∧
      t.pru.printer = (if c = .open then .offline else if p = .out then .paperOut else .ready) ∧
      t.pru.use = none ∧ t.pru.jobs = [] ∧ t.pru.linesRemaining = s.pru.linesRemaining ∧
      (Cond.paperOut ∈ t.lki.conds ↔ (s.pru.printer = .paperOut ∧ t.pru.printer = .paperOut ∧ Cond.paperOut ∈ s.lki.conds) ∨
        (s.pru.printer ≠ .paperOut ∧ (t.pru.printer = .paperOut ∨ Cond.paperOut ∈ s.lki.conds))) ∧
      t = { s with pru := t.pru, dbc := t.dbc, lki := t.lki, drives := t.drives }) ∧
  ∀ s : State,
    (s.Settled → s.part ≠ .quiesced → s.pru.use = none →
      (s.pru.printer.stopped = true ∨ s.pru.printer = .ready ∧ s.pru.anyQueued = false) →
      ∃ t, exec .printerStatusTimer s = .next t ∧ t.pru = { s.pru with use := some .status, statusWanted := false } ∧
        (if s.dbc.current = none ∧ s.dbc.noneWaiting = true then
          t.dbc.current = some ⟨.printer, .printerStatus, .sending, none, !s.dbc.readyHigh⟩
        else t.dbc = { s.dbc with waiting := s.dbc.waiting.set .printer (some .printerStatus) }) ∧
        t = { s with pru := t.pru, dbc := t.dbc, drives := t.drives }) ∧
    (s.pru.hold = .running → ∃ t, exec .ticketHoldExpiry s = .next t ∧ t.pru.hold = .expired ∧
      (∀ j ∈ t.pru.jobs, j.kind = .ticket → j.printing = true) ∧ s.keepsSettings t ∧
      ∀ n, (t.tube n).count = (s.tube n).count) ∧
    (∀ lane tag, s.Settled → s.lki.hold = [] → s.takesRequests →
      ∃ t, exec (.paperLoaded lane tag) s = .next t ∧ t.pru.linesRemaining = s.pru.rollLines ∧
        t.pru.paperLow = (if s.pru.paperLow = true then
            decide (s.pru.rollLines < s.pru.lowClear) || s.pru.nearEnd
          else decide (s.pru.rollLines ≤ s.pru.lowDeclare) || s.pru.nearEnd) ∧
        (s.pru.use = none → t.pru.use = some .status) ∧ (s.pru.use ≠ none → t.pru.statusWanted = true) ∧
        t.pru.jobs = s.pru.jobs ∧ t.pru.printer = s.pru.printer ∧ s.answered t lane tag .paperLoaded .ok [] ∧
        t = { s with pru := t.pru, dbc := t.dbc, lki := t.lki, drives := t.drives })

/-- A job being printed. A LINE response with paper and a closed cover counts the line for the job and off the roll, evaluates
PAPER_LOW and asks for the next line, or for the cut after the last; one that shows no paper or an open cover stops the printer,
and the job ends FAILED, a note going back to the queue, and a sale that waits for the ticket is refunded. A FEED_CUT response ends
the job as PRINTED: a note's record is stored, a sale that waits for the ticket has its delivery verified and its tray released,
and the next job starts on a READY printer. A LINE that times out before the third failure in a row is sent again. -/
def Obligations.PrintingGoesLineByLine : Prop :=
  ∀ (s : State) (bytes : List Byte) (p : Paper) (c : Cover) (j : Job), s.pru.current = some j →
    s.pru.statusWanted = false →
    (p ≠ .out → c = .closed → s.PrinterAnswers .line bytes p c →
      ∃ t, exec (.responseReceived bytes) s = .next t ∧
        t.pru.jobs = s.pru.jobs.map (fun k => if k.id = j.id then { k with printed := k.printed + 1 } else k) ∧
        t.pru.linesRemaining = s.pru.linesRemaining - 1 ∧ t.pru.paper = some p ∧ t.pru.cover = some c ∧
        t.pru.printer = s.pru.printer ∧
        t.pru.paperLow = (if s.pru.paperLow = true then
            decide (s.pru.linesRemaining - 1 < s.pru.lowClear) || decide (p = .nearEnd)
          else decide (s.pru.linesRemaining - 1 ≤ s.pru.lowDeclare) || decide (p = .nearEnd)) ∧
        (∀ text, j.lines[j.printed + 1]? = some text → t.asksPrinter .line (.line text)) ∧
        (j.lines.length ≤ j.printed + 1 → t.asksPrinter .feedCut .feedCut) ∧
        t = { s with pru := t.pru, dbc := t.dbc, lki := t.lki, drives := t.drives }) ∧
    (p = .out ∨ c = .open → s.PrinterAnswers .line bytes p c →
      ∃ t, exec (.responseReceived bytes) s = .next t ∧
        t.pru.printer = (if c = .open then .offline else .paperOut) ∧ t.pru.linesRemaining = s.pru.linesRemaining ∧
        ((∀ l x, j.kind = .ticket → j.lane = some l → (s.lane l).sale = some x →
            (s.coin l).tray ≠ [] ∨ x.committed ≤ x.refundPaid ∧ x.shortfall = 0) →
          t.pru.jobs = (if j.kind = .note then
              s.pru.jobs.map fun k => if k.id = j.id then { k with printing := false, printed := 0 } else k
            else s.pru.jobs.filter fun k => k.id ≠ j.id)) ∧
        (s.lki.tx ≠ none → s.lki.notices.length < 20 → j.notice .failed ∈ t.lki.notices) ∧
        (j.kind ≠ .ticket → t = { s with pru := t.pru, dbc := t.dbc, lki := t.lki, drives := t.drives }) ∧
        (∀ l x, j.kind = .ticket → j.lane = some l → (s.lane l).sale = some x → s.awaitsTicket l = true →
          s.DeliveryFails t l x ∧ s.keepsSettings t)) ∧
    ((∀ k ∈ s.pru.jobs, k.printing = true → k.id = j.id) → s.PrinterAnswers .feedCut bytes p c →
      ∃ t, exec (.responseReceived bytes) s = .next t ∧
        (s.pru.jobs.filter fun k => k.id ≠ j.id).map Job.id <+: t.pru.jobs.map Job.id ∧
        ((∀ l x, j.kind = .ticket → j.lane = some l → (s.lane l).sale = some x → (s.coin l).tray ≠ []) →
          t.pru.jobs.map Job.id = (s.pru.jobs.filter fun k => k.id ≠ j.id).map Job.id) ∧
        t.pru.printer = (if printerOf p c = .ready ∧ t.pru.jobs ≠ [] then .printing else printerOf p c) ∧
        t.pru.linesRemaining = s.pru.linesRemaining ∧
        (s.lki.tx ≠ none → s.lki.notices.length < 20 → j.notice j.done ∈ t.lki.notices) ∧
        (∀ n, j.kind = .note → s.pru.noteOf j.id = some n →
          s.recordStored t (.note n.lane n.seq n.shortfall true (some j.id) s.now) ∧
          t.pru.notes = s.pru.notes.filter fun m => m ≠ n) ∧
        (j.kind ≠ .ticket → t.lanes = s.lanes ∧ t.ciu = s.ciu) ∧
        (∀ l x, j.kind = .ticket → j.lane = some l → (s.lane l).sale = some x → s.awaitsTicket l = true →
          s.keepsSettings t ∧ t.lane l.other = s.lane l.other ∧
          ((s.coin l).tray ≠ [] → (t.lane l).state = .delivering ∧ (t.lane l).sale = some { x with verified := true } ∧
            t.coin l = { s.coin l with trayOp := .releasing, released := 0 }) ∧
          ((s.coin l).tray = [] → x.changeOwed = 0 → x.shortfall = 0 → s.closesKept t l { x with verified := true }))) ∧
    (∀ e text, s.Settled → s.part ≠ .quiesced → s.dbc.current = some e → e.dev = .printer → e.phase = .waitingReady →
      s.pru.use = some .line → s.dbc.counts.get .printer < 2 → j.lines[j.printed]? = some text →
      ∃ t, exec .responseDeadline s = .next t ∧ t.asksPrinter .line (.line text) ∧ t.pru = s.pru ∧
        t = { s with dbc := t.dbc, drives := t.drives })

/-- PRINT_TEXT with a free slot makes a SERVICE job of the lines given and answers with its id; with none it answers
NOT_QUEUED. PRINT_CANCEL takes a queued receipt or service job out of its slot and marks a printing one. -/
def Obligations.PrintTextAndCancel : Prop :=
  ∀ (s : State) (lane tag : Nat), s.Settled → s.lki.hold = [] → s.takesRequests →
    (∀ lines, lines ≠ [] → lines.length ≤ 40 → lines.all lineOk = true → linesSize lines ≤ 239 →
      s.part ≠ .shuttingDown →
      (s.pru.taken < 8 → ∃ t j, exec (.printText lane tag lines) s = .next t ∧ j ∈ t.pru.jobs ∧ j.kind = .service ∧
        j.lane = none ∧ j.lines = lines ∧ j.printed = 0 ∧ t.pru.jobs.map Job.id = s.pru.jobs.map Job.id ++ [j.id] ∧
        s.answered t lane tag (.printText lines) .ok (be 1 j.id) ∧
        t = { s with pru := t.pru, dbc := t.dbc, lki := t.lki, drives := t.drives }) ∧
      (8 ≤ s.pru.taken → ∃ t, exec (.printText lane tag lines) s = .next t ∧ t.pru = s.pru ∧
        s.answered t lane tag (.printText lines) .notQueued [] ∧ t = { s.quiet with lki := t.lki })) ∧
    (∀ id j, id ≠ 0 → s.pru.jobs.find? (fun k => k.id = id) = some j → j.kind.first = false →
      (j.printing = false → ∃ t, exec (.printCancel lane tag id) s = .next t ∧
        t.pru = { s.pru with jobs := s.pru.jobs.filter fun k => k.id ≠ id } ∧
        s.answered t lane tag (.printCancel id) .ok [] ∧ t = { s.quiet with pru := t.pru, lki := t.lki }) ∧
      (j.printing = true → exec (.printCancel lane tag id) s = .next (State.sends
        { s.quiet with pru := { s.pru with
          jobs := s.pru.jobs.map fun k => if k.id = id then { k with cancel := true } else k } }
        lane tag (.printCancel id) .ok []))) ∧
    (∀ id j, id ≠ 0 → s.pru.jobs.find? (fun k => k.id = id) = some j → j.kind.first = true →
      exec (.printCancel lane tag id) s = .next (s.quiet.sends lane tag (.printCancel id) .notCancellable []))

/-! ## Journal and totals -/

/-- JOURNAL_RELEASE: the checks in their order, and the n oldest records leave when they pass. -/
def Obligations.JournalReleaseRemovesTheOldest : Prop :=
  ∀ (s : State) (lane tag first n : Nat), s.Settled → s.lki.hold = [] →
    (s.part = .starting → exec (.journalRelease lane tag first n) s =
      .next (s.quiet.sends lane tag (.journalRelease first n) .serviceState [])) ∧
    (s.part ≠ .starting → n = 0 ∨ 64 < n →
      exec (.journalRelease lane tag first n) s = .next (s.quiet.sends lane tag (.journalRelease first n) .range [])) ∧
    (s.part ≠ .starting → 1 ≤ n → n ≤ 64 → s.jnu.journal.head?.map Record.seq ≠ some first →
      exec (.journalRelease lane tag first n) s =
        .next (s.quiet.sends lane tag (.journalRelease first n) .sequenceMismatch [])) ∧
    (s.part ≠ .starting → 1 ≤ n → n ≤ 64 → s.jnu.journal.head?.map Record.seq = some first → s.stored < n →
      exec (.journalRelease lane tag first n) s = .next (s.quiet.sends lane tag (.journalRelease first n) .range [])) ∧
    (s.part ≠ .starting → 1 ≤ n → n ≤ 64 → s.jnu.journal.head?.map Record.seq = some first → n ≤ s.stored →
      exec (.journalRelease lane tag first n) s = .next (State.sends
        { s.quiet with jnu := { s.jnu with
          journal := s.jnu.journal.drop n
          armed := s.jnu.armed || decide (s.stored - n < s.jnu.inForce)
          waitTimer := if n = s.stored then .held s.jnu.waitTime else s.jnu.waitTimer } }
        lane tag (.journalRelease first n) .ok
        (be 1 (s.stored - n) ++ be 4 (((s.jnu.journal.drop n).head?.map Record.seq).getD 0))))

/-- A snapshot, manual or automatic, that the journal admits: the running totals are kept as the snapshot totals with the
period's end, its SNAPSHOT record is stored, and the running totals start again from zero. One that is not admitted is
answered JOURNAL_FULL, or waits for its retry. The model's choices: an automatic snapshot that comes due takes the place of one
still waiting from an earlier day (log entry 26), and it is due only at a second that the clock has counted to (log entry
17). -/
def Obligations.SnapshotsTakeTheTotals : Prop :=
  ∀ s : State, s.Settled →
    (∀ lane tag, s.lki.hold = [] → s.takesRequests → s.admits = true →
      ∃ t, exec (.totalsSnapshot lane tag) s = .next t ∧ s.snapshotTaken t .manual ∧
        t.jnu.lastAutoDay = (match s.jnu.retry with | some d => some d | none => s.jnu.lastAutoDay) ∧
        s.answered t lane tag .totalsSnapshot .ok (be 4 s.jnu.recSeq ++ optTime s.now)) ∧
    (∀ lane tag, s.lki.hold = [] → s.takesRequests → s.admits = false →
      exec (.totalsSnapshot lane tag) s = .next (s.quiet.sends lane tag .totalsSnapshot .journalFull [])) ∧
    (s.clk.set = true → s.clk.counted = true → s.jnu.autoTime = some s.clk.second → s.takesRequests →
      s.jnu.lastAutoDay ≠ some s.clk.day →
      (s.admits = true → ∃ t, exec .autoSnapshotDue s = .next t ∧ s.snapshotTaken t .auto ∧
        t.jnu.lastAutoDay = some s.clk.day) ∧
      (s.admits = false →
        exec .autoSnapshotDue s = .next { s.quiet with jnu := { s.jnu with retry := some s.clk.day } })) ∧
    (∀ d, s.jnu.retry = some d → s.minute = true →
      (s.admits = true → ∃ t, exec .autoSnapshotRetry s = .next t ∧ s.snapshotTaken t .auto ∧
        t.jnu.lastAutoDay = some d) ∧
      (s.admits = false → exec .autoSnapshotRetry s = .next s.quiet))

/-! ## Link -/

/-- An unknown request is answered UNKNOWN_REQUEST in every part state. A request that comes while another is in service waits
behind it, and one that finds both hold places taken is dropped and counted. A start byte starts a frame, bytes join it, and a
framing error, a length above 240, a CRC that disagrees or 10 ms without a byte discard it and count the drop. The model's
choices (log entry 9): a framing error while HUNTING starts no frame and is not counted, and a command whose body no frame
carries is dropped and counted. -/
def Obligations.LinkTakesBytesAndUnknownRequests : Prop :=
  ∀ s : State, s.Settled →
    (∀ lane tag code body, code < 0x80 → requestOf code body = .unknown → body.length ≤ 240 → s.lki.hold = [] →
      ∃ t, exec (.unknownRequest lane tag code body) s = .next t ∧ t.lki.hold = [⟨code, lane, tag, .unknown⟩] ∧
        (s.lki.tx = none → t.lki.tx = some (.reply ⟨code, lane, tag, .unknownRequest, []⟩)) ∧
        (s.lki.tx ≠ none → t.lki.tx = s.lki.tx ∧ t.lki.ready = some ⟨code, lane, tag, .unknownRequest, []⟩) ∧
        t = { s.quiet with lki := { s.lki with hold := t.lki.hold, tx := t.lki.tx, ready := t.lki.ready } }) ∧
    (∀ c x, carriage c = some x →
      (∀ h, s.lki.hold = [h] → requestSize x.req ≤ 240 → exec c s = .next { s.quiet with
        lki := { s.lki with hold := [h, ⟨requestCode x.req, x.lane, x.tag, x.req⟩] } }) ∧
      (2 ≤ s.lki.hold.length ∨ 240 < requestSize x.req → exec c s = .next { s.quiet with
        lki := { s.lki with dropCount := bump255 s.lki.dropCount } })) ∧
    (s.lki.receiver = none → ∀ b err, exec (.hostByte b err) s = .next { s.quiet with
      lki := { s.lki with receiver := if b = 0xA5 ∧ err = false then some [] else none } }) ∧
    (∀ bs, s.lki.receiver = some bs →
      (∀ b, field (bs ++ [b]) 0 1 ≤ 240 → (bs ++ [b]).length ≠ field (bs ++ [b]) 0 1 + 6 →
        exec (.hostByte b false) s = .next { s.quiet with lki := { s.lki with receiver := some (bs ++ [b]) } }) ∧
      (∀ b, 240 < field (bs ++ [b]) 0 1 ∨ ((bs ++ [b]).length = field (bs ++ [b]) 0 1 + 6 ∧
          be 2 (crc16 (bs.take (bs.length - 1))).toNat ≠ (bs ++ [b]).drop (bs.length - 1)) →
        exec (.hostByte b false) s = .next { s.quiet with
          lki := { s.lki with receiver := none, dropCount := bump255 s.lki.dropCount } }) ∧
      (∀ b, exec (.hostByte b true) s = .next { s.quiet with
        lki := { s.lki with receiver := none, dropCount := bump255 s.lki.dropCount } }) ∧
      exec .receiveTimeout s = .next { s.quiet with
        lki := { s.lki with receiver := none, dropCount := bump255 s.lki.dropCount } })

/-- A frame formed as R208 says, taken byte by byte, carries its code, lane, tag and body: at its last byte the receiver is
HUNTING again and the frame is accepted. -/
def Obligations.FormedFramesAreAccepted : Prop :=
  ∀ (s : State) (code lane tag : Nat) (body bs : List Byte) (b : Byte), code < 256 → lane < 256 → tag < 256 →
    body.length ≤ 240 → hostFrame code lane tag body = 0xA5 :: (bs ++ [b]) → s.lki.receiver = some bs →
      s.takeByte b false = (s.setReceiver none).frame code lane tag body

/-- TRANSMIT_END: the next thing sent is a ready reply, or else the oldest notice. The end of a reply frees its hold place and
brings the frame behind into service, and with a RESET pending it starts the part anew. -/
def Obligations.TransmitEndSendsTheNext : Prop :=
  ∀ s : State, s.Settled →
    (∀ n, s.lki.tx = some (.notice n) → exec .transmitEnd s = .next { s.quiet with lki :=
      match s.lki.ready, s.lki.notices with
      | some r, _ => { s.lki with tx := some (.reply r), ready := none }
      | none, m :: ms => { s.lki with tx := some (.notice m), notices := ms }
      | none, [] => { s.lki with tx := none } }) ∧
    (∀ r h, s.lki.tx = some (.reply r) → s.lki.hold = [h] → s.resetPending = false → s.lki.ready = none →
      exec .transmitEnd s = .next { s.quiet with lki :=
        match s.lki.notices with
        | m :: ms => { s.lki with tx := some (.notice m), notices := ms, hold := [] }
        | [] => { s.lki with tx := none, hold := [] } }) ∧
    (∀ r h k, s.lki.tx = some (.reply r) → s.lki.hold = [h, k] → s.resetPending = false →
      exec .transmitEnd s = .next (State.settle
        (State.serve { s.quiet with lki := { s.lki with tx := none, hold := [k] } }))) ∧
    (∀ r, s.lki.tx = some (.reply r) → s.resetPending = true →
      ∃ t, exec .transmitEnd s = .next t ∧ t.part = .starting ∧ t.resetPending = false ∧ t.lki.hold = [] ∧
        t.clk = s.clk ∧ t.fcu = s.fcu ∧ t.timers = s.timers ∧ t.start.cause = .reset ∧ t.dbc.counts = ⟨0, 0, 0⟩ ∧
        (∀ n, (t.tube n).count = (s.tube n).count ∧ (t.tube n).denom = (s.tube n).denom) ∧
        s.jnu.journal <+: t.jnu.journal ∧ t.saleSeq = s.saleSeq ∧ t.ciu.accept = s.ciu.accept)

/-! ## Clock and part -/

/-- CLOCK_SECOND counts a second of the set clock; the last second of a day, or DAY_CHANGE there, begins the next day, and
the last second of day 65,535 leaves the clock UNSET. An entry that is ATTACHED or has not expired stands. WAIT_TIMER_EXPIRY
queues JOURNAL_WAITING with the stored count and the oldest record's time, and the timer runs again, preset with the wait time
as it now stands. The model's choices: CLOCK_SECOND at the last second and DAY_CHANGE there are the same change (log entry
26), and a second that was counted to is marked so (log entry 17). -/
def Obligations.ClockAndWaitTimer : Prop :=
  ∀ s : State, s.Settled →
    (s.clk.set = true → s.clk.second < 86399 → exec .clockSecond s =
      .next { s.quiet with clk := ⟨true, s.clk.day, s.clk.second + 1, true⟩ }) ∧
    (s.clk.set = false → exec .clockSecond s = .next s.quiet) ∧
    (s.clk.set = true → s.clk.second = 86399 → ∀ c ∈ [Instr.clockSecond, .dayChange],
      ∃ t, exec c s = .next t ∧
        t.clk = (if s.clk.day < 65535 then ⟨true, s.clk.day + 1, 0, true⟩ else ⟨false, 0, 0, false⟩) ∧
        t.lanes = s.lanes ∧ t.ciu = s.ciu ∧ t.chu = s.chu ∧ t.pru = s.pru ∧ t.fcu = s.fcu ∧ t.part = s.part ∧
        t.timers = s.timers ∧ t.lki.hold = s.lki.hold ∧ s.jnu.journal <+: t.jnu.journal ∧
        ∀ n e, s.crt.entry n = some e →
          (e.attached = true ∨ e.expired s.timers.holdDays (s.clk.day + 1) = false) → t.crt.entry n = some e) ∧
    (s.jnu.waitTimer.runs = true → exec .waitTimerExpiry s =
      .next ({ s.quiet with jnu := { s.jnu with waitTimer := .running s.jnu.waitTime } }.notify
        (.journalWaiting s.stored (s.jnu.journal.head?.bind Record.time))).pump)

/-- POWER_WARNING begins SHUTTING_DOWN and closes or refunds the sales that still wait for the card or for coins; in STARTING
it is held, and in QUIESCED it has no effect. -/
def Obligations.PowerWarningInterruptsSales : Prop :=
  ∀ s : State, s.Settled →
    (s.part = .starting → exec .powerWarning s = .next { s.quiet with warnHeld := true }) ∧
    (s.part = .quiesced → exec .powerWarning s = .next s.quiet) ∧
    (s.takesRequests → ∃ t, exec .powerWarning s = .next t ∧ t.part = .shuttingDown ∧ t.warned = true ∧
      (∀ l x, (s.lane l).sale = some x →
        ((s.lane l).state = .awaitCard ∨ (s.lane l).state = .paying ∧ x.coinsReceived = 0) →
        (t.lane l).state = .idle ∧ (t.lane l).sale = none) ∧
      (∀ l x, (s.lane l).sale = some x → (s.lane l).state = .paying → 0 < x.coinsReceived → (s.coin l).tray ≠ [] →
        (t.lane l).state = .refunding ∧ (t.coin l).trayOp = .returning) ∧
      (∀ l, (s.lane l).state ∉ [LaneState.awaitCard, .paying] → (t.lane l).state = (s.lane l).state) ∧
      (∀ j ∈ t.pru.jobs, (j.kind = .receipt ∨ j.kind = .service) → j.printing = true) ∧
      t.clk = s.clk ∧ t.fcu = s.fcu)

/-- QUIESCED_ENTRY: once no sale is open, both lanes are IDLE, no resolution, order or dump is under way and the print work is
finished, the part is QUIESCED, coin audit is off, no purpose, claim or deferral flag stands, the printer's waiting request is
withdrawn, no job is queued but tickets, and the QUIESCED notice is given; before that it has no effect. That the entry is a
command of its own is the model's choice (log entry 12). -/
def Obligations.QuiescedIsEnteredWhenDone : Prop :=
  ∀ s : State, s.Settled →
    (s.part = .shuttingDown → s.shutdownDone = true →
      ∃ t, exec .quiescedEntry s = .next t ∧ t.part = .quiesced ∧ t.jnu.retry = none ∧
        (∀ l, (t.coin l).audit = false ∧ (t.session l).purpose = .none ∧ t.crt.claims.get l = none) ∧
        (∀ j ∈ t.pru.jobs, j.printing = false → j.kind = .ticket) ∧ t.dbc.waiting.get .printer = none ∧
        t.lanes = s.lanes ∧ t.clk = s.clk ∧ t.fcu = s.fcu ∧
        (∀ n, t.crt.entry n = (s.crt.entry n).map CrtEntry.unreported) ∧ s.jnu.journal <+: t.jnu.journal ∧
        (s.lki.notices.length + s.pru.jobs.length < 32 → s.lki.tx ≠ none → t.lki.notices.getLast? = some .quiesced)) ∧
    (s.part ≠ .shuttingDown ∨ s.shutdownDone = false → exec .quiescedEntry s = .next s.quiet)

/-- The model's choices (log entries 7 and 18): the block idles on an empty queue, and an event that comes while nothing waits
for it changes nothing: a lane timer's expiry, a tray event, the end of a payout wait, the end of a transmission, a bus event. -/
def Obligations.IdlingAndEventsOutOfPlace : Prop :=
  ∀ (s : State) (l : Lane),
    (s.pending = [] → step s = .next s) ∧
    (s.Settled →
      ((s.lane l).timer = none → ∀ c ∈ [Instr.awaitCardTimeout l, .inactivityTimeout l, .preWriteWindowExpiry l,
        .inDoubtWindowExpiry l, .enquiryTimeout l], exec c s = .next s.quiet) ∧
      ((s.coin l).trayOp = .none → ∀ c ∈ [Instr.escrowReleaseEntry l, .escrowReturnComplete l],
        exec c s = .next s.quiet) ∧
      (s.chu.wait = none → ∀ c ∈ [Instr.payoutSensorConfirm, .payoutWaitExpiry], exec c s = .next s.quiet) ∧
      (s.lki.tx = none → exec .transmitEnd s = .next s.quiet) ∧
      (s.dbc.current = none → exec .requestSent s = .next s.quiet ∧ exec .responseDeadline s = .next s.quiet ∧
        ∀ bytes, exec (.responseReceived bytes) s = .next s.quiet))
end

