-- ==== Sys2Proof/Laws/State.lean ====
section
/-! SUPPORT. One lemma per field per plain update of the state, and what a read by lane, tube or device gives after an
update. -/

namespace Sys2Proof.Machine

variable {α : Type}

/-! ## Access by lane, tube and device -/

@[simp] theorem PerLane.get_set (p : PerLane α) (l m : Lane) (x : α) :
    (p.set l x).get m = if m = l then x else p.get m := by
  cases l <;> cases m <;> rfl

@[simp] theorem PerLane.set_get (p : PerLane α) (l : Lane) : p.set l (p.get l) = p := by cases l <;> rfl

@[simp] theorem PerTube.get_set (p : PerTube α) (n m : TubeNo) (x : α) :
    (p.set n x).get m = if m = n then x else p.get m := by
  cases n <;> cases m <;> rfl

@[simp] theorem PerTube.set_get (p : PerTube α) (n : TubeNo) : p.set n (p.get n) = p := by cases n <;> rfl

@[simp] theorem PerDev.get_set (p : PerDev α) (d e : Dev) (x : α) :
    (p.set d x).get e = if e = d then x else p.get e := by
  cases d <;> cases e <;> rfl

theorem PerLane.ext_get {p q : PerLane α} (h : ∀ l, p.get l = q.get l) : p = q := by
  have ha := h .a
  have hb := h .b
  cases p
  cases q
  simp_all [PerLane.get]

@[simp] theorem Lane.other_ne (l : Lane) : l.other ≠ l := by cases l <;> decide

@[simp] theorem Lane.ne_other (l : Lane) : l ≠ l.other := by cases l <;> decide

@[simp] theorem Lane.ofCode_code (l : Lane) : Lane.ofCode l.code = some l := by cases l <;> rfl

@[simp] theorem TubeNo.ofCode_code (n : TubeNo) : TubeNo.ofCode n.code = some n := by cases n <;> rfl

@[simp] theorem TubeNo.mem_all (n : TubeNo) : n ∈ TubeNo.all := by cases n <;> decide

@[simp] theorem State.lane_setLane (s : State) (l m : Lane) (x : LaneCtx) :
    (s.setLane l x).lane m = if m = l then x else s.lane m := by simp [State.lane, State.setLane]

@[simp] theorem State.session_setSession (s : State) (l m : Lane) (x : Session) :
    (s.setSession l x).session m = if m = l then x else s.session m := by simp [State.session, State.setSession]

@[simp] theorem State.coin_setCoin (s : State) (l m : Lane) (x : CoinLane) :
    (s.setCoin l x).coin m = if m = l then x else s.coin m := by simp [State.coin, State.setCoin]

@[simp] theorem State.tube_setTube (s : State) (n m : TubeNo) (x : Tube) :
    (s.setTube n x).tube m = if m = n then x else s.tube m := by simp [State.tube, State.setTube]

/-! ## Fields that an update leaves -/

@[simp] theorem State.setLane_pending (s : State) (l : Lane) (x : LaneCtx) : (s.setLane l x).pending = s.pending := rfl
@[simp] theorem State.setLane_part (s : State) (l : Lane) (x : LaneCtx) : (s.setLane l x).part = s.part := rfl
@[simp] theorem State.setLane_warnHeld (s : State) (l : Lane) (x : LaneCtx) : (s.setLane l x).warnHeld = s.warnHeld := rfl
@[simp] theorem State.setLane_warned (s : State) (l : Lane) (x : LaneCtx) : (s.setLane l x).warned = s.warned := rfl
@[simp] theorem State.setLane_start (s : State) (l : Lane) (x : LaneCtx) : (s.setLane l x).start = s.start := rfl
@[simp] theorem State.setLane_resetPending (s : State) (l : Lane) (x : LaneCtx) : (s.setLane l x).resetPending = s.resetPending := rfl
@[simp] theorem State.setLane_clk (s : State) (l : Lane) (x : LaneCtx) : (s.setLane l x).clk = s.clk := rfl
@[simp] theorem State.setLane_tablesCleared (s : State) (l : Lane) (x : LaneCtx) : (s.setLane l x).tablesCleared = s.tablesCleared := rfl
@[simp] theorem State.setLane_financialLost (s : State) (l : Lane) (x : LaneCtx) : (s.setLane l x).financialLost = s.financialLost := rfl
@[simp] theorem State.setLane_saleSeq (s : State) (l : Lane) (x : LaneCtx) : (s.setLane l x).saleSeq = s.saleSeq := rfl
@[simp] theorem State.setLane_timers (s : State) (l : Lane) (x : LaneCtx) : (s.setLane l x).timers = s.timers := rfl
@[simp] theorem State.setLane_restore (s : State) (l : Lane) (x : LaneCtx) : (s.setLane l x).restore = s.restore := rfl
@[simp] theorem State.setLane_fcu (s : State) (l : Lane) (x : LaneCtx) : (s.setLane l x).fcu = s.fcu := rfl
@[simp] theorem State.setLane_ciu (s : State) (l : Lane) (x : LaneCtx) : (s.setLane l x).ciu = s.ciu := rfl
@[simp] theorem State.setLane_chu (s : State) (l : Lane) (x : LaneCtx) : (s.setLane l x).chu = s.chu := rfl
@[simp] theorem State.setLane_cdu (s : State) (l : Lane) (x : LaneCtx) : (s.setLane l x).cdu = s.cdu := rfl
@[simp] theorem State.setLane_crt (s : State) (l : Lane) (x : LaneCtx) : (s.setLane l x).crt = s.crt := rfl
@[simp] theorem State.setLane_pru (s : State) (l : Lane) (x : LaneCtx) : (s.setLane l x).pru = s.pru := rfl
@[simp] theorem State.setLane_dbc (s : State) (l : Lane) (x : LaneCtx) : (s.setLane l x).dbc = s.dbc := rfl
@[simp] theorem State.setLane_jnu (s : State) (l : Lane) (x : LaneCtx) : (s.setLane l x).jnu = s.jnu := rfl
@[simp] theorem State.setLane_lki (s : State) (l : Lane) (x : LaneCtx) : (s.setLane l x).lki = s.lki := rfl
@[simp] theorem State.setLane_drives (s : State) (l : Lane) (x : LaneCtx) : (s.setLane l x).drives = s.drives := rfl
@[simp] theorem State.setLane_freeCount (s : State) (l : Lane) (x : LaneCtx) : (s.setLane l x).freeCount = s.freeCount := rfl
@[simp] theorem State.setLane_session (s : State) (l : Lane) (x : LaneCtx) (m : Lane) : (s.setLane l x).session m = s.session m := rfl
@[simp] theorem State.setLane_coin (s : State) (l : Lane) (x : LaneCtx) (m : Lane) : (s.setLane l x).coin m = s.coin m := rfl
@[simp] theorem State.setLane_tube (s : State) (l : Lane) (x : LaneCtx) (m : TubeNo) : (s.setLane l x).tube m = s.tube m := rfl

@[simp] theorem State.modSale_pending (s : State) (l : Lane) (f : Sale → Sale) : (s.modSale l f).pending = s.pending := rfl
@[simp] theorem State.modSale_part (s : State) (l : Lane) (f : Sale → Sale) : (s.modSale l f).part = s.part := rfl
@[simp] theorem State.modSale_warnHeld (s : State) (l : Lane) (f : Sale → Sale) : (s.modSale l f).warnHeld = s.warnHeld := rfl
@[simp] theorem State.modSale_warned (s : State) (l : Lane) (f : Sale → Sale) : (s.modSale l f).warned = s.warned := rfl
@[simp] theorem State.modSale_start (s : State) (l : Lane) (f : Sale → Sale) : (s.modSale l f).start = s.start := rfl
@[simp] theorem State.modSale_resetPending (s : State) (l : Lane) (f : Sale → Sale) : (s.modSale l f).resetPending = s.resetPending := rfl
@[simp] theorem State.modSale_clk (s : State) (l : Lane) (f : Sale → Sale) : (s.modSale l f).clk = s.clk := rfl
@[simp] theorem State.modSale_tablesCleared (s : State) (l : Lane) (f : Sale → Sale) : (s.modSale l f).tablesCleared = s.tablesCleared := rfl
@[simp] theorem State.modSale_financialLost (s : State) (l : Lane) (f : Sale → Sale) : (s.modSale l f).financialLost = s.financialLost := rfl
@[simp] theorem State.modSale_saleSeq (s : State) (l : Lane) (f : Sale → Sale) : (s.modSale l f).saleSeq = s.saleSeq := rfl
@[simp] theorem State.modSale_timers (s : State) (l : Lane) (f : Sale → Sale) : (s.modSale l f).timers = s.timers := rfl
@[simp] theorem State.modSale_restore (s : State) (l : Lane) (f : Sale → Sale) : (s.modSale l f).restore = s.restore := rfl
@[simp] theorem State.modSale_fcu (s : State) (l : Lane) (f : Sale → Sale) : (s.modSale l f).fcu = s.fcu := rfl
@[simp] theorem State.modSale_ciu (s : State) (l : Lane) (f : Sale → Sale) : (s.modSale l f).ciu = s.ciu := rfl
@[simp] theorem State.modSale_chu (s : State) (l : Lane) (f : Sale → Sale) : (s.modSale l f).chu = s.chu := rfl
@[simp] theorem State.modSale_cdu (s : State) (l : Lane) (f : Sale → Sale) : (s.modSale l f).cdu = s.cdu := rfl
@[simp] theorem State.modSale_crt (s : State) (l : Lane) (f : Sale → Sale) : (s.modSale l f).crt = s.crt := rfl
@[simp] theorem State.modSale_pru (s : State) (l : Lane) (f : Sale → Sale) : (s.modSale l f).pru = s.pru := rfl
@[simp] theorem State.modSale_dbc (s : State) (l : Lane) (f : Sale → Sale) : (s.modSale l f).dbc = s.dbc := rfl
@[simp] theorem State.modSale_jnu (s : State) (l : Lane) (f : Sale → Sale) : (s.modSale l f).jnu = s.jnu := rfl
@[simp] theorem State.modSale_lki (s : State) (l : Lane) (f : Sale → Sale) : (s.modSale l f).lki = s.lki := rfl
@[simp] theorem State.modSale_drives (s : State) (l : Lane) (f : Sale → Sale) : (s.modSale l f).drives = s.drives := rfl
@[simp] theorem State.modSale_freeCount (s : State) (l : Lane) (f : Sale → Sale) : (s.modSale l f).freeCount = s.freeCount := rfl
@[simp] theorem State.modSale_session (s : State) (l : Lane) (f : Sale → Sale) (m : Lane) : (s.modSale l f).session m = s.session m := rfl
@[simp] theorem State.modSale_coin (s : State) (l : Lane) (f : Sale → Sale) (m : Lane) : (s.modSale l f).coin m = s.coin m := rfl
@[simp] theorem State.modSale_tube (s : State) (l : Lane) (f : Sale → Sale) (m : TubeNo) : (s.modSale l f).tube m = s.tube m := rfl

@[simp] theorem State.setSession_pending (s : State) (l : Lane) (x : Session) : (s.setSession l x).pending = s.pending := rfl
@[simp] theorem State.setSession_part (s : State) (l : Lane) (x : Session) : (s.setSession l x).part = s.part := rfl
@[simp] theorem State.setSession_warnHeld (s : State) (l : Lane) (x : Session) : (s.setSession l x).warnHeld = s.warnHeld := rfl
@[simp] theorem State.setSession_warned (s : State) (l : Lane) (x : Session) : (s.setSession l x).warned = s.warned := rfl
@[simp] theorem State.setSession_start (s : State) (l : Lane) (x : Session) : (s.setSession l x).start = s.start := rfl
@[simp] theorem State.setSession_resetPending (s : State) (l : Lane) (x : Session) : (s.setSession l x).resetPending = s.resetPending := rfl
@[simp] theorem State.setSession_clk (s : State) (l : Lane) (x : Session) : (s.setSession l x).clk = s.clk := rfl
@[simp] theorem State.setSession_tablesCleared (s : State) (l : Lane) (x : Session) : (s.setSession l x).tablesCleared = s.tablesCleared := rfl
@[simp] theorem State.setSession_financialLost (s : State) (l : Lane) (x : Session) : (s.setSession l x).financialLost = s.financialLost := rfl
@[simp] theorem State.setSession_saleSeq (s : State) (l : Lane) (x : Session) : (s.setSession l x).saleSeq = s.saleSeq := rfl
@[simp] theorem State.setSession_timers (s : State) (l : Lane) (x : Session) : (s.setSession l x).timers = s.timers := rfl
@[simp] theorem State.setSession_lanes (s : State) (l : Lane) (x : Session) : (s.setSession l x).lanes = s.lanes := rfl
@[simp] theorem State.setSession_restore (s : State) (l : Lane) (x : Session) : (s.setSession l x).restore = s.restore := rfl
@[simp] theorem State.setSession_fcu (s : State) (l : Lane) (x : Session) : (s.setSession l x).fcu = s.fcu := rfl
@[simp] theorem State.setSession_ciu (s : State) (l : Lane) (x : Session) : (s.setSession l x).ciu = s.ciu := rfl
@[simp] theorem State.setSession_chu (s : State) (l : Lane) (x : Session) : (s.setSession l x).chu = s.chu := rfl
@[simp] theorem State.setSession_crt (s : State) (l : Lane) (x : Session) : (s.setSession l x).crt = s.crt := rfl
@[simp] theorem State.setSession_pru (s : State) (l : Lane) (x : Session) : (s.setSession l x).pru = s.pru := rfl
@[simp] theorem State.setSession_dbc (s : State) (l : Lane) (x : Session) : (s.setSession l x).dbc = s.dbc := rfl
@[simp] theorem State.setSession_jnu (s : State) (l : Lane) (x : Session) : (s.setSession l x).jnu = s.jnu := rfl
@[simp] theorem State.setSession_lki (s : State) (l : Lane) (x : Session) : (s.setSession l x).lki = s.lki := rfl
@[simp] theorem State.setSession_drives (s : State) (l : Lane) (x : Session) : (s.setSession l x).drives = s.drives := rfl
@[simp] theorem State.setSession_freeCount (s : State) (l : Lane) (x : Session) : (s.setSession l x).freeCount = s.freeCount := rfl
@[simp] theorem State.setSession_lane (s : State) (l : Lane) (x : Session) (m : Lane) : (s.setSession l x).lane m = s.lane m := rfl
@[simp] theorem State.setSession_coin (s : State) (l : Lane) (x : Session) (m : Lane) : (s.setSession l x).coin m = s.coin m := rfl
@[simp] theorem State.setSession_tube (s : State) (l : Lane) (x : Session) (m : TubeNo) : (s.setSession l x).tube m = s.tube m := rfl

@[simp] theorem State.setCoin_pending (s : State) (l : Lane) (x : CoinLane) : (s.setCoin l x).pending = s.pending := rfl
@[simp] theorem State.setCoin_part (s : State) (l : Lane) (x : CoinLane) : (s.setCoin l x).part = s.part := rfl
@[simp] theorem State.setCoin_warnHeld (s : State) (l : Lane) (x : CoinLane) : (s.setCoin l x).warnHeld = s.warnHeld := rfl
@[simp] theorem State.setCoin_warned (s : State) (l : Lane) (x : CoinLane) : (s.setCoin l x).warned = s.warned := rfl
@[simp] theorem State.setCoin_start (s : State) (l : Lane) (x : CoinLane) : (s.setCoin l x).start = s.start := rfl
@[simp] theorem State.setCoin_resetPending (s : State) (l : Lane) (x : CoinLane) : (s.setCoin l x).resetPending = s.resetPending := rfl
@[simp] theorem State.setCoin_clk (s : State) (l : Lane) (x : CoinLane) : (s.setCoin l x).clk = s.clk := rfl
@[simp] theorem State.setCoin_tablesCleared (s : State) (l : Lane) (x : CoinLane) : (s.setCoin l x).tablesCleared = s.tablesCleared := rfl
@[simp] theorem State.setCoin_financialLost (s : State) (l : Lane) (x : CoinLane) : (s.setCoin l x).financialLost = s.financialLost := rfl
@[simp] theorem State.setCoin_saleSeq (s : State) (l : Lane) (x : CoinLane) : (s.setCoin l x).saleSeq = s.saleSeq := rfl
@[simp] theorem State.setCoin_timers (s : State) (l : Lane) (x : CoinLane) : (s.setCoin l x).timers = s.timers := rfl
@[simp] theorem State.setCoin_lanes (s : State) (l : Lane) (x : CoinLane) : (s.setCoin l x).lanes = s.lanes := rfl
@[simp] theorem State.setCoin_restore (s : State) (l : Lane) (x : CoinLane) : (s.setCoin l x).restore = s.restore := rfl
@[simp] theorem State.setCoin_fcu (s : State) (l : Lane) (x : CoinLane) : (s.setCoin l x).fcu = s.fcu := rfl
@[simp] theorem State.setCoin_chu (s : State) (l : Lane) (x : CoinLane) : (s.setCoin l x).chu = s.chu := rfl
@[simp] theorem State.setCoin_cdu (s : State) (l : Lane) (x : CoinLane) : (s.setCoin l x).cdu = s.cdu := rfl
@[simp] theorem State.setCoin_crt (s : State) (l : Lane) (x : CoinLane) : (s.setCoin l x).crt = s.crt := rfl
@[simp] theorem State.setCoin_pru (s : State) (l : Lane) (x : CoinLane) : (s.setCoin l x).pru = s.pru := rfl
@[simp] theorem State.setCoin_dbc (s : State) (l : Lane) (x : CoinLane) : (s.setCoin l x).dbc = s.dbc := rfl
@[simp] theorem State.setCoin_jnu (s : State) (l : Lane) (x : CoinLane) : (s.setCoin l x).jnu = s.jnu := rfl
@[simp] theorem State.setCoin_lki (s : State) (l : Lane) (x : CoinLane) : (s.setCoin l x).lki = s.lki := rfl
@[simp] theorem State.setCoin_drives (s : State) (l : Lane) (x : CoinLane) : (s.setCoin l x).drives = s.drives := rfl
@[simp] theorem State.setCoin_freeCount (s : State) (l : Lane) (x : CoinLane) : (s.setCoin l x).freeCount = s.freeCount := rfl
@[simp] theorem State.setCoin_lane (s : State) (l : Lane) (x : CoinLane) (m : Lane) : (s.setCoin l x).lane m = s.lane m := rfl
@[simp] theorem State.setCoin_session (s : State) (l : Lane) (x : CoinLane) (m : Lane) : (s.setCoin l x).session m = s.session m := rfl
@[simp] theorem State.setCoin_tube (s : State) (l : Lane) (x : CoinLane) (m : TubeNo) : (s.setCoin l x).tube m = s.tube m := rfl

@[simp] theorem State.setTube_pending (s : State) (n : TubeNo) (x : Tube) : (s.setTube n x).pending = s.pending := rfl
@[simp] theorem State.setTube_part (s : State) (n : TubeNo) (x : Tube) : (s.setTube n x).part = s.part := rfl
@[simp] theorem State.setTube_warnHeld (s : State) (n : TubeNo) (x : Tube) : (s.setTube n x).warnHeld = s.warnHeld := rfl
@[simp] theorem State.setTube_warned (s : State) (n : TubeNo) (x : Tube) : (s.setTube n x).warned = s.warned := rfl
@[simp] theorem State.setTube_start (s : State) (n : TubeNo) (x : Tube) : (s.setTube n x).start = s.start := rfl
@[simp] theorem State.setTube_resetPending (s : State) (n : TubeNo) (x : Tube) : (s.setTube n x).resetPending = s.resetPending := rfl
@[simp] theorem State.setTube_clk (s : State) (n : TubeNo) (x : Tube) : (s.setTube n x).clk = s.clk := rfl
@[simp] theorem State.setTube_tablesCleared (s : State) (n : TubeNo) (x : Tube) : (s.setTube n x).tablesCleared = s.tablesCleared := rfl
@[simp] theorem State.setTube_financialLost (s : State) (n : TubeNo) (x : Tube) : (s.setTube n x).financialLost = s.financialLost := rfl
@[simp] theorem State.setTube_saleSeq (s : State) (n : TubeNo) (x : Tube) : (s.setTube n x).saleSeq = s.saleSeq := rfl
@[simp] theorem State.setTube_timers (s : State) (n : TubeNo) (x : Tube) : (s.setTube n x).timers = s.timers := rfl
@[simp] theorem State.setTube_lanes (s : State) (n : TubeNo) (x : Tube) : (s.setTube n x).lanes = s.lanes := rfl
@[simp] theorem State.setTube_restore (s : State) (n : TubeNo) (x : Tube) : (s.setTube n x).restore = s.restore := rfl
@[simp] theorem State.setTube_fcu (s : State) (n : TubeNo) (x : Tube) : (s.setTube n x).fcu = s.fcu := rfl
@[simp] theorem State.setTube_ciu (s : State) (n : TubeNo) (x : Tube) : (s.setTube n x).ciu = s.ciu := rfl
@[simp] theorem State.setTube_cdu (s : State) (n : TubeNo) (x : Tube) : (s.setTube n x).cdu = s.cdu := rfl
@[simp] theorem State.setTube_crt (s : State) (n : TubeNo) (x : Tube) : (s.setTube n x).crt = s.crt := rfl
@[simp] theorem State.setTube_pru (s : State) (n : TubeNo) (x : Tube) : (s.setTube n x).pru = s.pru := rfl
@[simp] theorem State.setTube_dbc (s : State) (n : TubeNo) (x : Tube) : (s.setTube n x).dbc = s.dbc := rfl
@[simp] theorem State.setTube_jnu (s : State) (n : TubeNo) (x : Tube) : (s.setTube n x).jnu = s.jnu := rfl
@[simp] theorem State.setTube_lki (s : State) (n : TubeNo) (x : Tube) : (s.setTube n x).lki = s.lki := rfl
@[simp] theorem State.setTube_drives (s : State) (n : TubeNo) (x : Tube) : (s.setTube n x).drives = s.drives := rfl
@[simp] theorem State.setTube_freeCount (s : State) (n : TubeNo) (x : Tube) : (s.setTube n x).freeCount = s.freeCount := rfl
@[simp] theorem State.setTube_lane (s : State) (n : TubeNo) (x : Tube) (m : Lane) : (s.setTube n x).lane m = s.lane m := rfl
@[simp] theorem State.setTube_session (s : State) (n : TubeNo) (x : Tube) (m : Lane) : (s.setTube n x).session m = s.session m := rfl
@[simp] theorem State.setTube_coin (s : State) (n : TubeNo) (x : Tube) (m : Lane) : (s.setTube n x).coin m = s.coin m := rfl

@[simp] theorem State.drive_pending (s : State) (d : Drive) : (s.drive d).pending = s.pending := rfl
@[simp] theorem State.drive_part (s : State) (d : Drive) : (s.drive d).part = s.part := rfl
@[simp] theorem State.drive_warnHeld (s : State) (d : Drive) : (s.drive d).warnHeld = s.warnHeld := rfl
@[simp] theorem State.drive_warned (s : State) (d : Drive) : (s.drive d).warned = s.warned := rfl
@[simp] theorem State.drive_start (s : State) (d : Drive) : (s.drive d).start = s.start := rfl
@[simp] theorem State.drive_resetPending (s : State) (d : Drive) : (s.drive d).resetPending = s.resetPending := rfl
@[simp] theorem State.drive_clk (s : State) (d : Drive) : (s.drive d).clk = s.clk := rfl
@[simp] theorem State.drive_tablesCleared (s : State) (d : Drive) : (s.drive d).tablesCleared = s.tablesCleared := rfl
@[simp] theorem State.drive_financialLost (s : State) (d : Drive) : (s.drive d).financialLost = s.financialLost := rfl
@[simp] theorem State.drive_saleSeq (s : State) (d : Drive) : (s.drive d).saleSeq = s.saleSeq := rfl
@[simp] theorem State.drive_timers (s : State) (d : Drive) : (s.drive d).timers = s.timers := rfl
@[simp] theorem State.drive_lanes (s : State) (d : Drive) : (s.drive d).lanes = s.lanes := rfl
@[simp] theorem State.drive_restore (s : State) (d : Drive) : (s.drive d).restore = s.restore := rfl
@[simp] theorem State.drive_fcu (s : State) (d : Drive) : (s.drive d).fcu = s.fcu := rfl
@[simp] theorem State.drive_ciu (s : State) (d : Drive) : (s.drive d).ciu = s.ciu := rfl
@[simp] theorem State.drive_chu (s : State) (d : Drive) : (s.drive d).chu = s.chu := rfl
@[simp] theorem State.drive_cdu (s : State) (d : Drive) : (s.drive d).cdu = s.cdu := rfl
@[simp] theorem State.drive_crt (s : State) (d : Drive) : (s.drive d).crt = s.crt := rfl
@[simp] theorem State.drive_pru (s : State) (d : Drive) : (s.drive d).pru = s.pru := rfl
@[simp] theorem State.drive_dbc (s : State) (d : Drive) : (s.drive d).dbc = s.dbc := rfl
@[simp] theorem State.drive_jnu (s : State) (d : Drive) : (s.drive d).jnu = s.jnu := rfl
@[simp] theorem State.drive_lki (s : State) (d : Drive) : (s.drive d).lki = s.lki := rfl
@[simp] theorem State.drive_freeCount (s : State) (d : Drive) : (s.drive d).freeCount = s.freeCount := rfl
@[simp] theorem State.drive_lane (s : State) (d : Drive) (m : Lane) : (s.drive d).lane m = s.lane m := rfl
@[simp] theorem State.drive_session (s : State) (d : Drive) (m : Lane) : (s.drive d).session m = s.session m := rfl
@[simp] theorem State.drive_coin (s : State) (d : Drive) (m : Lane) : (s.drive d).coin m = s.coin m := rfl
@[simp] theorem State.drive_tube (s : State) (d : Drive) (m : TubeNo) : (s.drive d).tube m = s.tube m := rfl

@[simp] theorem State.begin_pending (s : State) : (s.begin).pending = s.pending := rfl
@[simp] theorem State.begin_part (s : State) : (s.begin).part = s.part := rfl
@[simp] theorem State.begin_warnHeld (s : State) : (s.begin).warnHeld = s.warnHeld := rfl
@[simp] theorem State.begin_warned (s : State) : (s.begin).warned = s.warned := rfl
@[simp] theorem State.begin_start (s : State) : (s.begin).start = s.start := rfl
@[simp] theorem State.begin_resetPending (s : State) : (s.begin).resetPending = s.resetPending := rfl
@[simp] theorem State.begin_clk (s : State) : (s.begin).clk = s.clk := rfl
@[simp] theorem State.begin_tablesCleared (s : State) : (s.begin).tablesCleared = s.tablesCleared := rfl
@[simp] theorem State.begin_financialLost (s : State) : (s.begin).financialLost = s.financialLost := rfl
@[simp] theorem State.begin_saleSeq (s : State) : (s.begin).saleSeq = s.saleSeq := rfl
@[simp] theorem State.begin_timers (s : State) : (s.begin).timers = s.timers := rfl
@[simp] theorem State.begin_lanes (s : State) : (s.begin).lanes = s.lanes := rfl
@[simp] theorem State.begin_restore (s : State) : (s.begin).restore = s.restore := rfl
@[simp] theorem State.begin_fcu (s : State) : (s.begin).fcu = s.fcu := rfl
@[simp] theorem State.begin_ciu (s : State) : (s.begin).ciu = s.ciu := rfl
@[simp] theorem State.begin_chu (s : State) : (s.begin).chu = s.chu := rfl
@[simp] theorem State.begin_cdu (s : State) : (s.begin).cdu = s.cdu := rfl
@[simp] theorem State.begin_crt (s : State) : (s.begin).crt = s.crt := rfl
@[simp] theorem State.begin_pru (s : State) : (s.begin).pru = s.pru := rfl
@[simp] theorem State.begin_dbc (s : State) : (s.begin).dbc = s.dbc := rfl
@[simp] theorem State.begin_jnu (s : State) : (s.begin).jnu = s.jnu := rfl
@[simp] theorem State.begin_lki (s : State) : (s.begin).lki = s.lki := rfl
@[simp] theorem State.begin_freeCount (s : State) : (s.begin).freeCount = s.freeCount := rfl
@[simp] theorem State.begin_lane (s : State) (m : Lane) : (s.begin).lane m = s.lane m := rfl
@[simp] theorem State.begin_session (s : State) (m : Lane) : (s.begin).session m = s.session m := rfl
@[simp] theorem State.begin_coin (s : State) (m : Lane) : (s.begin).coin m = s.coin m := rfl
@[simp] theorem State.begin_tube (s : State) (m : TubeNo) : (s.begin).tube m = s.tube m := rfl

@[simp] theorem State.tally_pending (s : State) (f : Totals → Totals) : (s.tally f).pending = s.pending := rfl
@[simp] theorem State.tally_part (s : State) (f : Totals → Totals) : (s.tally f).part = s.part := rfl
@[simp] theorem State.tally_warnHeld (s : State) (f : Totals → Totals) : (s.tally f).warnHeld = s.warnHeld := rfl
@[simp] theorem State.tally_warned (s : State) (f : Totals → Totals) : (s.tally f).warned = s.warned := rfl
@[simp] theorem State.tally_start (s : State) (f : Totals → Totals) : (s.tally f).start = s.start := rfl
@[simp] theorem State.tally_resetPending (s : State) (f : Totals → Totals) : (s.tally f).resetPending = s.resetPending := rfl
@[simp] theorem State.tally_clk (s : State) (f : Totals → Totals) : (s.tally f).clk = s.clk := rfl
@[simp] theorem State.tally_tablesCleared (s : State) (f : Totals → Totals) : (s.tally f).tablesCleared = s.tablesCleared := rfl
@[simp] theorem State.tally_financialLost (s : State) (f : Totals → Totals) : (s.tally f).financialLost = s.financialLost := rfl
@[simp] theorem State.tally_saleSeq (s : State) (f : Totals → Totals) : (s.tally f).saleSeq = s.saleSeq := rfl
@[simp] theorem State.tally_timers (s : State) (f : Totals → Totals) : (s.tally f).timers = s.timers := rfl
@[simp] theorem State.tally_lanes (s : State) (f : Totals → Totals) : (s.tally f).lanes = s.lanes := rfl
@[simp] theorem State.tally_restore (s : State) (f : Totals → Totals) : (s.tally f).restore = s.restore := rfl
@[simp] theorem State.tally_fcu (s : State) (f : Totals → Totals) : (s.tally f).fcu = s.fcu := rfl
@[simp] theorem State.tally_ciu (s : State) (f : Totals → Totals) : (s.tally f).ciu = s.ciu := rfl
@[simp] theorem State.tally_chu (s : State) (f : Totals → Totals) : (s.tally f).chu = s.chu := rfl
@[simp] theorem State.tally_cdu (s : State) (f : Totals → Totals) : (s.tally f).cdu = s.cdu := rfl
@[simp] theorem State.tally_crt (s : State) (f : Totals → Totals) : (s.tally f).crt = s.crt := rfl
@[simp] theorem State.tally_pru (s : State) (f : Totals → Totals) : (s.tally f).pru = s.pru := rfl
@[simp] theorem State.tally_dbc (s : State) (f : Totals → Totals) : (s.tally f).dbc = s.dbc := rfl
@[simp] theorem State.tally_lki (s : State) (f : Totals → Totals) : (s.tally f).lki = s.lki := rfl
@[simp] theorem State.tally_drives (s : State) (f : Totals → Totals) : (s.tally f).drives = s.drives := rfl
@[simp] theorem State.tally_freeCount (s : State) (f : Totals → Totals) : (s.tally f).freeCount = s.freeCount := rfl
@[simp] theorem State.tally_lane (s : State) (f : Totals → Totals) (m : Lane) : (s.tally f).lane m = s.lane m := rfl
@[simp] theorem State.tally_session (s : State) (f : Totals → Totals) (m : Lane) : (s.tally f).session m = s.session m := rfl
@[simp] theorem State.tally_coin (s : State) (f : Totals → Totals) (m : Lane) : (s.tally f).coin m = s.coin m := rfl
@[simp] theorem State.tally_tube (s : State) (f : Totals → Totals) (m : TubeNo) : (s.tally f).tube m = s.tube m := rfl

@[simp] theorem State.recordLost_pending (s : State) : (s.recordLost).pending = s.pending := rfl
@[simp] theorem State.recordLost_part (s : State) : (s.recordLost).part = s.part := rfl
@[simp] theorem State.recordLost_warnHeld (s : State) : (s.recordLost).warnHeld = s.warnHeld := rfl
@[simp] theorem State.recordLost_warned (s : State) : (s.recordLost).warned = s.warned := rfl
@[simp] theorem State.recordLost_start (s : State) : (s.recordLost).start = s.start := rfl
@[simp] theorem State.recordLost_resetPending (s : State) : (s.recordLost).resetPending = s.resetPending := rfl
@[simp] theorem State.recordLost_clk (s : State) : (s.recordLost).clk = s.clk := rfl
@[simp] theorem State.recordLost_tablesCleared (s : State) : (s.recordLost).tablesCleared = s.tablesCleared := rfl
@[simp] theorem State.recordLost_financialLost (s : State) : (s.recordLost).financialLost = s.financialLost := rfl
@[simp] theorem State.recordLost_saleSeq (s : State) : (s.recordLost).saleSeq = s.saleSeq := rfl
@[simp] theorem State.recordLost_timers (s : State) : (s.recordLost).timers = s.timers := rfl
@[simp] theorem State.recordLost_lanes (s : State) : (s.recordLost).lanes = s.lanes := rfl
@[simp] theorem State.recordLost_restore (s : State) : (s.recordLost).restore = s.restore := rfl
@[simp] theorem State.recordLost_fcu (s : State) : (s.recordLost).fcu = s.fcu := rfl
@[simp] theorem State.recordLost_ciu (s : State) : (s.recordLost).ciu = s.ciu := rfl
@[simp] theorem State.recordLost_chu (s : State) : (s.recordLost).chu = s.chu := rfl
@[simp] theorem State.recordLost_cdu (s : State) : (s.recordLost).cdu = s.cdu := rfl
@[simp] theorem State.recordLost_crt (s : State) : (s.recordLost).crt = s.crt := rfl
@[simp] theorem State.recordLost_pru (s : State) : (s.recordLost).pru = s.pru := rfl
@[simp] theorem State.recordLost_dbc (s : State) : (s.recordLost).dbc = s.dbc := rfl
@[simp] theorem State.recordLost_lki (s : State) : (s.recordLost).lki = s.lki := rfl
@[simp] theorem State.recordLost_drives (s : State) : (s.recordLost).drives = s.drives := rfl
@[simp] theorem State.recordLost_freeCount (s : State) : (s.recordLost).freeCount = s.freeCount := rfl
@[simp] theorem State.recordLost_lane (s : State) (m : Lane) : (s.recordLost).lane m = s.lane m := rfl
@[simp] theorem State.recordLost_session (s : State) (m : Lane) : (s.recordLost).session m = s.session m := rfl
@[simp] theorem State.recordLost_coin (s : State) (m : Lane) : (s.recordLost).coin m = s.coin m := rfl
@[simp] theorem State.recordLost_tube (s : State) (m : TubeNo) : (s.recordLost).tube m = s.tube m := rfl

@[simp] theorem State.setRes_pending (s : State) (l : Lane) (p : Plan) : (s.setRes l p).pending = s.pending := rfl
@[simp] theorem State.setRes_part (s : State) (l : Lane) (p : Plan) : (s.setRes l p).part = s.part := rfl
@[simp] theorem State.setRes_warnHeld (s : State) (l : Lane) (p : Plan) : (s.setRes l p).warnHeld = s.warnHeld := rfl
@[simp] theorem State.setRes_warned (s : State) (l : Lane) (p : Plan) : (s.setRes l p).warned = s.warned := rfl
@[simp] theorem State.setRes_start (s : State) (l : Lane) (p : Plan) : (s.setRes l p).start = s.start := rfl
@[simp] theorem State.setRes_resetPending (s : State) (l : Lane) (p : Plan) : (s.setRes l p).resetPending = s.resetPending := rfl
@[simp] theorem State.setRes_clk (s : State) (l : Lane) (p : Plan) : (s.setRes l p).clk = s.clk := rfl
@[simp] theorem State.setRes_tablesCleared (s : State) (l : Lane) (p : Plan) : (s.setRes l p).tablesCleared = s.tablesCleared := rfl
@[simp] theorem State.setRes_financialLost (s : State) (l : Lane) (p : Plan) : (s.setRes l p).financialLost = s.financialLost := rfl
@[simp] theorem State.setRes_saleSeq (s : State) (l : Lane) (p : Plan) : (s.setRes l p).saleSeq = s.saleSeq := rfl
@[simp] theorem State.setRes_timers (s : State) (l : Lane) (p : Plan) : (s.setRes l p).timers = s.timers := rfl
@[simp] theorem State.setRes_lanes (s : State) (l : Lane) (p : Plan) : (s.setRes l p).lanes = s.lanes := rfl
@[simp] theorem State.setRes_restore (s : State) (l : Lane) (p : Plan) : (s.setRes l p).restore = s.restore := rfl
@[simp] theorem State.setRes_fcu (s : State) (l : Lane) (p : Plan) : (s.setRes l p).fcu = s.fcu := rfl
@[simp] theorem State.setRes_ciu (s : State) (l : Lane) (p : Plan) : (s.setRes l p).ciu = s.ciu := rfl
@[simp] theorem State.setRes_cdu (s : State) (l : Lane) (p : Plan) : (s.setRes l p).cdu = s.cdu := rfl
@[simp] theorem State.setRes_crt (s : State) (l : Lane) (p : Plan) : (s.setRes l p).crt = s.crt := rfl
@[simp] theorem State.setRes_pru (s : State) (l : Lane) (p : Plan) : (s.setRes l p).pru = s.pru := rfl
@[simp] theorem State.setRes_dbc (s : State) (l : Lane) (p : Plan) : (s.setRes l p).dbc = s.dbc := rfl
@[simp] theorem State.setRes_jnu (s : State) (l : Lane) (p : Plan) : (s.setRes l p).jnu = s.jnu := rfl
@[simp] theorem State.setRes_lki (s : State) (l : Lane) (p : Plan) : (s.setRes l p).lki = s.lki := rfl
@[simp] theorem State.setRes_drives (s : State) (l : Lane) (p : Plan) : (s.setRes l p).drives = s.drives := rfl
@[simp] theorem State.setRes_freeCount (s : State) (l : Lane) (p : Plan) : (s.setRes l p).freeCount = s.freeCount := rfl
@[simp] theorem State.setRes_lane (s : State) (l : Lane) (p : Plan) (m : Lane) : (s.setRes l p).lane m = s.lane m := rfl
@[simp] theorem State.setRes_session (s : State) (l : Lane) (p : Plan) (m : Lane) : (s.setRes l p).session m = s.session m := rfl
@[simp] theorem State.setRes_coin (s : State) (l : Lane) (p : Plan) (m : Lane) : (s.setRes l p).coin m = s.coin m := rfl

@[simp] theorem State.setEntry_pending (s : State) (n : Nat) (e : Option CrtEntry) : (s.setEntry n e).pending = s.pending := rfl
@[simp] theorem State.setEntry_part (s : State) (n : Nat) (e : Option CrtEntry) : (s.setEntry n e).part = s.part := rfl
@[simp] theorem State.setEntry_warnHeld (s : State) (n : Nat) (e : Option CrtEntry) : (s.setEntry n e).warnHeld = s.warnHeld := rfl
@[simp] theorem State.setEntry_warned (s : State) (n : Nat) (e : Option CrtEntry) : (s.setEntry n e).warned = s.warned := rfl
@[simp] theorem State.setEntry_start (s : State) (n : Nat) (e : Option CrtEntry) : (s.setEntry n e).start = s.start := rfl
@[simp] theorem State.setEntry_resetPending (s : State) (n : Nat) (e : Option CrtEntry) : (s.setEntry n e).resetPending = s.resetPending := rfl
@[simp] theorem State.setEntry_clk (s : State) (n : Nat) (e : Option CrtEntry) : (s.setEntry n e).clk = s.clk := rfl
@[simp] theorem State.setEntry_tablesCleared (s : State) (n : Nat) (e : Option CrtEntry) : (s.setEntry n e).tablesCleared = s.tablesCleared := rfl
@[simp] theorem State.setEntry_financialLost (s : State) (n : Nat) (e : Option CrtEntry) : (s.setEntry n e).financialLost = s.financialLost := rfl
@[simp] theorem State.setEntry_saleSeq (s : State) (n : Nat) (e : Option CrtEntry) : (s.setEntry n e).saleSeq = s.saleSeq := rfl
@[simp] theorem State.setEntry_timers (s : State) (n : Nat) (e : Option CrtEntry) : (s.setEntry n e).timers = s.timers := rfl
@[simp] theorem State.setEntry_lanes (s : State) (n : Nat) (e : Option CrtEntry) : (s.setEntry n e).lanes = s.lanes := rfl
@[simp] theorem State.setEntry_restore (s : State) (n : Nat) (e : Option CrtEntry) : (s.setEntry n e).restore = s.restore := rfl
@[simp] theorem State.setEntry_fcu (s : State) (n : Nat) (e : Option CrtEntry) : (s.setEntry n e).fcu = s.fcu := rfl
@[simp] theorem State.setEntry_ciu (s : State) (n : Nat) (e : Option CrtEntry) : (s.setEntry n e).ciu = s.ciu := rfl
@[simp] theorem State.setEntry_chu (s : State) (n : Nat) (e : Option CrtEntry) : (s.setEntry n e).chu = s.chu := rfl
@[simp] theorem State.setEntry_cdu (s : State) (n : Nat) (e : Option CrtEntry) : (s.setEntry n e).cdu = s.cdu := rfl
@[simp] theorem State.setEntry_pru (s : State) (n : Nat) (e : Option CrtEntry) : (s.setEntry n e).pru = s.pru := rfl
@[simp] theorem State.setEntry_dbc (s : State) (n : Nat) (e : Option CrtEntry) : (s.setEntry n e).dbc = s.dbc := rfl
@[simp] theorem State.setEntry_jnu (s : State) (n : Nat) (e : Option CrtEntry) : (s.setEntry n e).jnu = s.jnu := rfl
@[simp] theorem State.setEntry_lki (s : State) (n : Nat) (e : Option CrtEntry) : (s.setEntry n e).lki = s.lki := rfl
@[simp] theorem State.setEntry_drives (s : State) (n : Nat) (e : Option CrtEntry) : (s.setEntry n e).drives = s.drives := rfl
@[simp] theorem State.setEntry_freeCount (s : State) (n : Nat) (e : Option CrtEntry) : (s.setEntry n e).freeCount = s.freeCount := rfl
@[simp] theorem State.setEntry_lane (s : State) (n : Nat) (e : Option CrtEntry) (m : Lane) : (s.setEntry n e).lane m = s.lane m := rfl
@[simp] theorem State.setEntry_session (s : State) (n : Nat) (e : Option CrtEntry) (m : Lane) : (s.setEntry n e).session m = s.session m := rfl
@[simp] theorem State.setEntry_coin (s : State) (n : Nat) (e : Option CrtEntry) (m : Lane) : (s.setEntry n e).coin m = s.coin m := rfl
@[simp] theorem State.setEntry_tube (s : State) (n : Nat) (e : Option CrtEntry) (m : TubeNo) : (s.setEntry n e).tube m = s.tube m := rfl

@[simp] theorem State.setClaim_pending (s : State) (l : Lane) (c : Option Serial) : (s.setClaim l c).pending = s.pending := rfl
@[simp] theorem State.setClaim_part (s : State) (l : Lane) (c : Option Serial) : (s.setClaim l c).part = s.part := rfl
@[simp] theorem State.setClaim_warnHeld (s : State) (l : Lane) (c : Option Serial) : (s.setClaim l c).warnHeld = s.warnHeld := rfl
@[simp] theorem State.setClaim_warned (s : State) (l : Lane) (c : Option Serial) : (s.setClaim l c).warned = s.warned := rfl
@[simp] theorem State.setClaim_start (s : State) (l : Lane) (c : Option Serial) : (s.setClaim l c).start = s.start := rfl
@[simp] theorem State.setClaim_resetPending (s : State) (l : Lane) (c : Option Serial) : (s.setClaim l c).resetPending = s.resetPending := rfl
@[simp] theorem State.setClaim_clk (s : State) (l : Lane) (c : Option Serial) : (s.setClaim l c).clk = s.clk := rfl
@[simp] theorem State.setClaim_tablesCleared (s : State) (l : Lane) (c : Option Serial) : (s.setClaim l c).tablesCleared = s.tablesCleared := rfl
@[simp] theorem State.setClaim_financialLost (s : State) (l : Lane) (c : Option Serial) : (s.setClaim l c).financialLost = s.financialLost := rfl
@[simp] theorem State.setClaim_saleSeq (s : State) (l : Lane) (c : Option Serial) : (s.setClaim l c).saleSeq = s.saleSeq := rfl
@[simp] theorem State.setClaim_timers (s : State) (l : Lane) (c : Option Serial) : (s.setClaim l c).timers = s.timers := rfl
@[simp] theorem State.setClaim_lanes (s : State) (l : Lane) (c : Option Serial) : (s.setClaim l c).lanes = s.lanes := rfl
@[simp] theorem State.setClaim_restore (s : State) (l : Lane) (c : Option Serial) : (s.setClaim l c).restore = s.restore := rfl
@[simp] theorem State.setClaim_fcu (s : State) (l : Lane) (c : Option Serial) : (s.setClaim l c).fcu = s.fcu := rfl
@[simp] theorem State.setClaim_ciu (s : State) (l : Lane) (c : Option Serial) : (s.setClaim l c).ciu = s.ciu := rfl
@[simp] theorem State.setClaim_chu (s : State) (l : Lane) (c : Option Serial) : (s.setClaim l c).chu = s.chu := rfl
@[simp] theorem State.setClaim_cdu (s : State) (l : Lane) (c : Option Serial) : (s.setClaim l c).cdu = s.cdu := rfl
@[simp] theorem State.setClaim_pru (s : State) (l : Lane) (c : Option Serial) : (s.setClaim l c).pru = s.pru := rfl
@[simp] theorem State.setClaim_dbc (s : State) (l : Lane) (c : Option Serial) : (s.setClaim l c).dbc = s.dbc := rfl
@[simp] theorem State.setClaim_jnu (s : State) (l : Lane) (c : Option Serial) : (s.setClaim l c).jnu = s.jnu := rfl
@[simp] theorem State.setClaim_lki (s : State) (l : Lane) (c : Option Serial) : (s.setClaim l c).lki = s.lki := rfl
@[simp] theorem State.setClaim_drives (s : State) (l : Lane) (c : Option Serial) : (s.setClaim l c).drives = s.drives := rfl
@[simp] theorem State.setClaim_freeCount (s : State) (l : Lane) (c : Option Serial) : (s.setClaim l c).freeCount = s.freeCount := rfl
@[simp] theorem State.setClaim_lane (s : State) (l : Lane) (c : Option Serial) (m : Lane) : (s.setClaim l c).lane m = s.lane m := rfl
@[simp] theorem State.setClaim_session (s : State) (l : Lane) (c : Option Serial) (m : Lane) : (s.setClaim l c).session m = s.session m := rfl
@[simp] theorem State.setClaim_coin (s : State) (l : Lane) (c : Option Serial) (m : Lane) : (s.setClaim l c).coin m = s.coin m := rfl
@[simp] theorem State.setClaim_tube (s : State) (l : Lane) (c : Option Serial) (m : TubeNo) : (s.setClaim l c).tube m = s.tube m := rfl

@[simp] theorem State.setCrtRes_pending (s : State) (l : Lane) (b : Bool) : (s.setCrtRes l b).pending = s.pending := rfl
@[simp] theorem State.setCrtRes_part (s : State) (l : Lane) (b : Bool) : (s.setCrtRes l b).part = s.part := rfl
@[simp] theorem State.setCrtRes_warnHeld (s : State) (l : Lane) (b : Bool) : (s.setCrtRes l b).warnHeld = s.warnHeld := rfl
@[simp] theorem State.setCrtRes_warned (s : State) (l : Lane) (b : Bool) : (s.setCrtRes l b).warned = s.warned := rfl
@[simp] theorem State.setCrtRes_start (s : State) (l : Lane) (b : Bool) : (s.setCrtRes l b).start = s.start := rfl
@[simp] theorem State.setCrtRes_resetPending (s : State) (l : Lane) (b : Bool) : (s.setCrtRes l b).resetPending = s.resetPending := rfl
@[simp] theorem State.setCrtRes_clk (s : State) (l : Lane) (b : Bool) : (s.setCrtRes l b).clk = s.clk := rfl
@[simp] theorem State.setCrtRes_tablesCleared (s : State) (l : Lane) (b : Bool) : (s.setCrtRes l b).tablesCleared = s.tablesCleared := rfl
@[simp] theorem State.setCrtRes_financialLost (s : State) (l : Lane) (b : Bool) : (s.setCrtRes l b).financialLost = s.financialLost := rfl
@[simp] theorem State.setCrtRes_saleSeq (s : State) (l : Lane) (b : Bool) : (s.setCrtRes l b).saleSeq = s.saleSeq := rfl
@[simp] theorem State.setCrtRes_timers (s : State) (l : Lane) (b : Bool) : (s.setCrtRes l b).timers = s.timers := rfl
@[simp] theorem State.setCrtRes_lanes (s : State) (l : Lane) (b : Bool) : (s.setCrtRes l b).lanes = s.lanes := rfl
@[simp] theorem State.setCrtRes_restore (s : State) (l : Lane) (b : Bool) : (s.setCrtRes l b).restore = s.restore := rfl
@[simp] theorem State.setCrtRes_fcu (s : State) (l : Lane) (b : Bool) : (s.setCrtRes l b).fcu = s.fcu := rfl
@[simp] theorem State.setCrtRes_ciu (s : State) (l : Lane) (b : Bool) : (s.setCrtRes l b).ciu = s.ciu := rfl
@[simp] theorem State.setCrtRes_chu (s : State) (l : Lane) (b : Bool) : (s.setCrtRes l b).chu = s.chu := rfl
@[simp] theorem State.setCrtRes_cdu (s : State) (l : Lane) (b : Bool) : (s.setCrtRes l b).cdu = s.cdu := rfl
@[simp] theorem State.setCrtRes_pru (s : State) (l : Lane) (b : Bool) : (s.setCrtRes l b).pru = s.pru := rfl
@[simp] theorem State.setCrtRes_dbc (s : State) (l : Lane) (b : Bool) : (s.setCrtRes l b).dbc = s.dbc := rfl
@[simp] theorem State.setCrtRes_jnu (s : State) (l : Lane) (b : Bool) : (s.setCrtRes l b).jnu = s.jnu := rfl
@[simp] theorem State.setCrtRes_lki (s : State) (l : Lane) (b : Bool) : (s.setCrtRes l b).lki = s.lki := rfl
@[simp] theorem State.setCrtRes_drives (s : State) (l : Lane) (b : Bool) : (s.setCrtRes l b).drives = s.drives := rfl
@[simp] theorem State.setCrtRes_freeCount (s : State) (l : Lane) (b : Bool) : (s.setCrtRes l b).freeCount = s.freeCount := rfl
@[simp] theorem State.setCrtRes_lane (s : State) (l : Lane) (b : Bool) (m : Lane) : (s.setCrtRes l b).lane m = s.lane m := rfl
@[simp] theorem State.setCrtRes_session (s : State) (l : Lane) (b : Bool) (m : Lane) : (s.setCrtRes l b).session m = s.session m := rfl
@[simp] theorem State.setCrtRes_coin (s : State) (l : Lane) (b : Bool) (m : Lane) : (s.setCrtRes l b).coin m = s.coin m := rfl
@[simp] theorem State.setCrtRes_tube (s : State) (l : Lane) (b : Bool) (m : TubeNo) : (s.setCrtRes l b).tube m = s.tube m := rfl

@[simp] theorem State.setTicketSlot_pending (s : State) (l : Lane) (b : Bool) : (s.setTicketSlot l b).pending = s.pending := rfl
@[simp] theorem State.setTicketSlot_part (s : State) (l : Lane) (b : Bool) : (s.setTicketSlot l b).part = s.part := rfl
@[simp] theorem State.setTicketSlot_warnHeld (s : State) (l : Lane) (b : Bool) : (s.setTicketSlot l b).warnHeld = s.warnHeld := rfl
@[simp] theorem State.setTicketSlot_warned (s : State) (l : Lane) (b : Bool) : (s.setTicketSlot l b).warned = s.warned := rfl
@[simp] theorem State.setTicketSlot_start (s : State) (l : Lane) (b : Bool) : (s.setTicketSlot l b).start = s.start := rfl
@[simp] theorem State.setTicketSlot_resetPending (s : State) (l : Lane) (b : Bool) : (s.setTicketSlot l b).resetPending = s.resetPending := rfl
@[simp] theorem State.setTicketSlot_clk (s : State) (l : Lane) (b : Bool) : (s.setTicketSlot l b).clk = s.clk := rfl
@[simp] theorem State.setTicketSlot_tablesCleared (s : State) (l : Lane) (b : Bool) : (s.setTicketSlot l b).tablesCleared = s.tablesCleared := rfl
@[simp] theorem State.setTicketSlot_financialLost (s : State) (l : Lane) (b : Bool) : (s.setTicketSlot l b).financialLost = s.financialLost := rfl
@[simp] theorem State.setTicketSlot_saleSeq (s : State) (l : Lane) (b : Bool) : (s.setTicketSlot l b).saleSeq = s.saleSeq := rfl
@[simp] theorem State.setTicketSlot_timers (s : State) (l : Lane) (b : Bool) : (s.setTicketSlot l b).timers = s.timers := rfl
@[simp] theorem State.setTicketSlot_lanes (s : State) (l : Lane) (b : Bool) : (s.setTicketSlot l b).lanes = s.lanes := rfl
@[simp] theorem State.setTicketSlot_restore (s : State) (l : Lane) (b : Bool) : (s.setTicketSlot l b).restore = s.restore := rfl
@[simp] theorem State.setTicketSlot_fcu (s : State) (l : Lane) (b : Bool) : (s.setTicketSlot l b).fcu = s.fcu := rfl
@[simp] theorem State.setTicketSlot_ciu (s : State) (l : Lane) (b : Bool) : (s.setTicketSlot l b).ciu = s.ciu := rfl
@[simp] theorem State.setTicketSlot_chu (s : State) (l : Lane) (b : Bool) : (s.setTicketSlot l b).chu = s.chu := rfl
@[simp] theorem State.setTicketSlot_cdu (s : State) (l : Lane) (b : Bool) : (s.setTicketSlot l b).cdu = s.cdu := rfl
@[simp] theorem State.setTicketSlot_crt (s : State) (l : Lane) (b : Bool) : (s.setTicketSlot l b).crt = s.crt := rfl
@[simp] theorem State.setTicketSlot_dbc (s : State) (l : Lane) (b : Bool) : (s.setTicketSlot l b).dbc = s.dbc := rfl
@[simp] theorem State.setTicketSlot_jnu (s : State) (l : Lane) (b : Bool) : (s.setTicketSlot l b).jnu = s.jnu := rfl
@[simp] theorem State.setTicketSlot_lki (s : State) (l : Lane) (b : Bool) : (s.setTicketSlot l b).lki = s.lki := rfl
@[simp] theorem State.setTicketSlot_drives (s : State) (l : Lane) (b : Bool) : (s.setTicketSlot l b).drives = s.drives := rfl
@[simp] theorem State.setTicketSlot_freeCount (s : State) (l : Lane) (b : Bool) : (s.setTicketSlot l b).freeCount = s.freeCount := rfl
@[simp] theorem State.setTicketSlot_lane (s : State) (l : Lane) (b : Bool) (m : Lane) : (s.setTicketSlot l b).lane m = s.lane m := rfl
@[simp] theorem State.setTicketSlot_session (s : State) (l : Lane) (b : Bool) (m : Lane) : (s.setTicketSlot l b).session m = s.session m := rfl
@[simp] theorem State.setTicketSlot_coin (s : State) (l : Lane) (b : Bool) (m : Lane) : (s.setTicketSlot l b).coin m = s.coin m := rfl
@[simp] theorem State.setTicketSlot_tube (s : State) (l : Lane) (b : Bool) (m : TubeNo) : (s.setTicketSlot l b).tube m = s.tube m := rfl

@[simp] theorem State.withdraw_pending (s : State) (d : Dev) : (s.withdraw d).pending = s.pending := rfl
@[simp] theorem State.withdraw_part (s : State) (d : Dev) : (s.withdraw d).part = s.part := rfl
@[simp] theorem State.withdraw_warnHeld (s : State) (d : Dev) : (s.withdraw d).warnHeld = s.warnHeld := rfl
@[simp] theorem State.withdraw_warned (s : State) (d : Dev) : (s.withdraw d).warned = s.warned := rfl
@[simp] theorem State.withdraw_start (s : State) (d : Dev) : (s.withdraw d).start = s.start := rfl
@[simp] theorem State.withdraw_resetPending (s : State) (d : Dev) : (s.withdraw d).resetPending = s.resetPending := rfl
@[simp] theorem State.withdraw_clk (s : State) (d : Dev) : (s.withdraw d).clk = s.clk := rfl
@[simp] theorem State.withdraw_tablesCleared (s : State) (d : Dev) : (s.withdraw d).tablesCleared = s.tablesCleared := rfl
@[simp] theorem State.withdraw_financialLost (s : State) (d : Dev) : (s.withdraw d).financialLost = s.financialLost := rfl
@[simp] theorem State.withdraw_saleSeq (s : State) (d : Dev) : (s.withdraw d).saleSeq = s.saleSeq := rfl
@[simp] theorem State.withdraw_timers (s : State) (d : Dev) : (s.withdraw d).timers = s.timers := rfl
@[simp] theorem State.withdraw_lanes (s : State) (d : Dev) : (s.withdraw d).lanes = s.lanes := rfl
@[simp] theorem State.withdraw_restore (s : State) (d : Dev) : (s.withdraw d).restore = s.restore := rfl
@[simp] theorem State.withdraw_fcu (s : State) (d : Dev) : (s.withdraw d).fcu = s.fcu := rfl
@[simp] theorem State.withdraw_ciu (s : State) (d : Dev) : (s.withdraw d).ciu = s.ciu := rfl
@[simp] theorem State.withdraw_chu (s : State) (d : Dev) : (s.withdraw d).chu = s.chu := rfl
@[simp] theorem State.withdraw_cdu (s : State) (d : Dev) : (s.withdraw d).cdu = s.cdu := rfl
@[simp] theorem State.withdraw_crt (s : State) (d : Dev) : (s.withdraw d).crt = s.crt := rfl
@[simp] theorem State.withdraw_pru (s : State) (d : Dev) : (s.withdraw d).pru = s.pru := rfl
@[simp] theorem State.withdraw_jnu (s : State) (d : Dev) : (s.withdraw d).jnu = s.jnu := rfl
@[simp] theorem State.withdraw_lki (s : State) (d : Dev) : (s.withdraw d).lki = s.lki := rfl
@[simp] theorem State.withdraw_drives (s : State) (d : Dev) : (s.withdraw d).drives = s.drives := rfl
@[simp] theorem State.withdraw_freeCount (s : State) (d : Dev) : (s.withdraw d).freeCount = s.freeCount := rfl
@[simp] theorem State.withdraw_lane (s : State) (d : Dev) (m : Lane) : (s.withdraw d).lane m = s.lane m := rfl
@[simp] theorem State.withdraw_session (s : State) (d : Dev) (m : Lane) : (s.withdraw d).session m = s.session m := rfl
@[simp] theorem State.withdraw_coin (s : State) (d : Dev) (m : Lane) : (s.withdraw d).coin m = s.coin m := rfl
@[simp] theorem State.withdraw_tube (s : State) (d : Dev) (m : TubeNo) : (s.withdraw d).tube m = s.tube m := rfl

@[simp] theorem State.startTimer_pending (s : State) (l : Lane) (n : Nat) : (s.startTimer l n).pending = s.pending := rfl
@[simp] theorem State.startTimer_part (s : State) (l : Lane) (n : Nat) : (s.startTimer l n).part = s.part := rfl
@[simp] theorem State.startTimer_warnHeld (s : State) (l : Lane) (n : Nat) : (s.startTimer l n).warnHeld = s.warnHeld := rfl
@[simp] theorem State.startTimer_warned (s : State) (l : Lane) (n : Nat) : (s.startTimer l n).warned = s.warned := rfl
@[simp] theorem State.startTimer_start (s : State) (l : Lane) (n : Nat) : (s.startTimer l n).start = s.start := rfl
@[simp] theorem State.startTimer_resetPending (s : State) (l : Lane) (n : Nat) : (s.startTimer l n).resetPending = s.resetPending := rfl
@[simp] theorem State.startTimer_clk (s : State) (l : Lane) (n : Nat) : (s.startTimer l n).clk = s.clk := rfl
@[simp] theorem State.startTimer_tablesCleared (s : State) (l : Lane) (n : Nat) : (s.startTimer l n).tablesCleared = s.tablesCleared := rfl
@[simp] theorem State.startTimer_financialLost (s : State) (l : Lane) (n : Nat) : (s.startTimer l n).financialLost = s.financialLost := rfl
@[simp] theorem State.startTimer_saleSeq (s : State) (l : Lane) (n : Nat) : (s.startTimer l n).saleSeq = s.saleSeq := rfl
@[simp] theorem State.startTimer_timers (s : State) (l : Lane) (n : Nat) : (s.startTimer l n).timers = s.timers := rfl
@[simp] theorem State.startTimer_restore (s : State) (l : Lane) (n : Nat) : (s.startTimer l n).restore = s.restore := rfl
@[simp] theorem State.startTimer_fcu (s : State) (l : Lane) (n : Nat) : (s.startTimer l n).fcu = s.fcu := rfl
@[simp] theorem State.startTimer_ciu (s : State) (l : Lane) (n : Nat) : (s.startTimer l n).ciu = s.ciu := rfl
@[simp] theorem State.startTimer_chu (s : State) (l : Lane) (n : Nat) : (s.startTimer l n).chu = s.chu := rfl
@[simp] theorem State.startTimer_cdu (s : State) (l : Lane) (n : Nat) : (s.startTimer l n).cdu = s.cdu := rfl
@[simp] theorem State.startTimer_crt (s : State) (l : Lane) (n : Nat) : (s.startTimer l n).crt = s.crt := rfl
@[simp] theorem State.startTimer_pru (s : State) (l : Lane) (n : Nat) : (s.startTimer l n).pru = s.pru := rfl
@[simp] theorem State.startTimer_dbc (s : State) (l : Lane) (n : Nat) : (s.startTimer l n).dbc = s.dbc := rfl
@[simp] theorem State.startTimer_jnu (s : State) (l : Lane) (n : Nat) : (s.startTimer l n).jnu = s.jnu := rfl
@[simp] theorem State.startTimer_lki (s : State) (l : Lane) (n : Nat) : (s.startTimer l n).lki = s.lki := rfl
@[simp] theorem State.startTimer_drives (s : State) (l : Lane) (n : Nat) : (s.startTimer l n).drives = s.drives := rfl
@[simp] theorem State.startTimer_freeCount (s : State) (l : Lane) (n : Nat) : (s.startTimer l n).freeCount = s.freeCount := rfl
@[simp] theorem State.startTimer_session (s : State) (l : Lane) (n : Nat) (m : Lane) : (s.startTimer l n).session m = s.session m := rfl
@[simp] theorem State.startTimer_coin (s : State) (l : Lane) (n : Nat) (m : Lane) : (s.startTimer l n).coin m = s.coin m := rfl
@[simp] theorem State.startTimer_tube (s : State) (l : Lane) (n : Nat) (m : TubeNo) : (s.startTimer l n).tube m = s.tube m := rfl

@[simp] theorem State.stopTimer_pending (s : State) (l : Lane) : (s.stopTimer l).pending = s.pending := rfl
@[simp] theorem State.stopTimer_part (s : State) (l : Lane) : (s.stopTimer l).part = s.part := rfl
@[simp] theorem State.stopTimer_warnHeld (s : State) (l : Lane) : (s.stopTimer l).warnHeld = s.warnHeld := rfl
@[simp] theorem State.stopTimer_warned (s : State) (l : Lane) : (s.stopTimer l).warned = s.warned := rfl
@[simp] theorem State.stopTimer_start (s : State) (l : Lane) : (s.stopTimer l).start = s.start := rfl
@[simp] theorem State.stopTimer_resetPending (s : State) (l : Lane) : (s.stopTimer l).resetPending = s.resetPending := rfl
@[simp] theorem State.stopTimer_clk (s : State) (l : Lane) : (s.stopTimer l).clk = s.clk := rfl
@[simp] theorem State.stopTimer_tablesCleared (s : State) (l : Lane) : (s.stopTimer l).tablesCleared = s.tablesCleared := rfl
@[simp] theorem State.stopTimer_financialLost (s : State) (l : Lane) : (s.stopTimer l).financialLost = s.financialLost := rfl
@[simp] theorem State.stopTimer_saleSeq (s : State) (l : Lane) : (s.stopTimer l).saleSeq = s.saleSeq := rfl
@[simp] theorem State.stopTimer_timers (s : State) (l : Lane) : (s.stopTimer l).timers = s.timers := rfl
@[simp] theorem State.stopTimer_restore (s : State) (l : Lane) : (s.stopTimer l).restore = s.restore := rfl
@[simp] theorem State.stopTimer_fcu (s : State) (l : Lane) : (s.stopTimer l).fcu = s.fcu := rfl
@[simp] theorem State.stopTimer_ciu (s : State) (l : Lane) : (s.stopTimer l).ciu = s.ciu := rfl
@[simp] theorem State.stopTimer_chu (s : State) (l : Lane) : (s.stopTimer l).chu = s.chu := rfl
@[simp] theorem State.stopTimer_cdu (s : State) (l : Lane) : (s.stopTimer l).cdu = s.cdu := rfl
@[simp] theorem State.stopTimer_crt (s : State) (l : Lane) : (s.stopTimer l).crt = s.crt := rfl
@[simp] theorem State.stopTimer_pru (s : State) (l : Lane) : (s.stopTimer l).pru = s.pru := rfl
@[simp] theorem State.stopTimer_dbc (s : State) (l : Lane) : (s.stopTimer l).dbc = s.dbc := rfl
@[simp] theorem State.stopTimer_jnu (s : State) (l : Lane) : (s.stopTimer l).jnu = s.jnu := rfl
@[simp] theorem State.stopTimer_lki (s : State) (l : Lane) : (s.stopTimer l).lki = s.lki := rfl
@[simp] theorem State.stopTimer_drives (s : State) (l : Lane) : (s.stopTimer l).drives = s.drives := rfl
@[simp] theorem State.stopTimer_freeCount (s : State) (l : Lane) : (s.stopTimer l).freeCount = s.freeCount := rfl
@[simp] theorem State.stopTimer_session (s : State) (l : Lane) (m : Lane) : (s.stopTimer l).session m = s.session m := rfl
@[simp] theorem State.stopTimer_coin (s : State) (l : Lane) (m : Lane) : (s.stopTimer l).coin m = s.coin m := rfl
@[simp] theorem State.stopTimer_tube (s : State) (l : Lane) (m : TubeNo) : (s.stopTimer l).tube m = s.tube m := rfl

@[simp] theorem State.setTray_pending (s : State) (l : Lane) (t : List TrayEntry) (o : TrayOp) : (s.setTray l t o).pending = s.pending := rfl
@[simp] theorem State.setTray_part (s : State) (l : Lane) (t : List TrayEntry) (o : TrayOp) : (s.setTray l t o).part = s.part := rfl
@[simp] theorem State.setTray_warnHeld (s : State) (l : Lane) (t : List TrayEntry) (o : TrayOp) : (s.setTray l t o).warnHeld = s.warnHeld := rfl
@[simp] theorem State.setTray_warned (s : State) (l : Lane) (t : List TrayEntry) (o : TrayOp) : (s.setTray l t o).warned = s.warned := rfl
@[simp] theorem State.setTray_start (s : State) (l : Lane) (t : List TrayEntry) (o : TrayOp) : (s.setTray l t o).start = s.start := rfl
@[simp] theorem State.setTray_resetPending (s : State) (l : Lane) (t : List TrayEntry) (o : TrayOp) : (s.setTray l t o).resetPending = s.resetPending := rfl
@[simp] theorem State.setTray_clk (s : State) (l : Lane) (t : List TrayEntry) (o : TrayOp) : (s.setTray l t o).clk = s.clk := rfl
@[simp] theorem State.setTray_tablesCleared (s : State) (l : Lane) (t : List TrayEntry) (o : TrayOp) : (s.setTray l t o).tablesCleared = s.tablesCleared := rfl
@[simp] theorem State.setTray_financialLost (s : State) (l : Lane) (t : List TrayEntry) (o : TrayOp) : (s.setTray l t o).financialLost = s.financialLost := rfl
@[simp] theorem State.setTray_saleSeq (s : State) (l : Lane) (t : List TrayEntry) (o : TrayOp) : (s.setTray l t o).saleSeq = s.saleSeq := rfl
@[simp] theorem State.setTray_timers (s : State) (l : Lane) (t : List TrayEntry) (o : TrayOp) : (s.setTray l t o).timers = s.timers := rfl
@[simp] theorem State.setTray_lanes (s : State) (l : Lane) (t : List TrayEntry) (o : TrayOp) : (s.setTray l t o).lanes = s.lanes := rfl
@[simp] theorem State.setTray_restore (s : State) (l : Lane) (t : List TrayEntry) (o : TrayOp) : (s.setTray l t o).restore = s.restore := rfl
@[simp] theorem State.setTray_fcu (s : State) (l : Lane) (t : List TrayEntry) (o : TrayOp) : (s.setTray l t o).fcu = s.fcu := rfl
@[simp] theorem State.setTray_chu (s : State) (l : Lane) (t : List TrayEntry) (o : TrayOp) : (s.setTray l t o).chu = s.chu := rfl
@[simp] theorem State.setTray_cdu (s : State) (l : Lane) (t : List TrayEntry) (o : TrayOp) : (s.setTray l t o).cdu = s.cdu := rfl
@[simp] theorem State.setTray_crt (s : State) (l : Lane) (t : List TrayEntry) (o : TrayOp) : (s.setTray l t o).crt = s.crt := rfl
@[simp] theorem State.setTray_pru (s : State) (l : Lane) (t : List TrayEntry) (o : TrayOp) : (s.setTray l t o).pru = s.pru := rfl
@[simp] theorem State.setTray_dbc (s : State) (l : Lane) (t : List TrayEntry) (o : TrayOp) : (s.setTray l t o).dbc = s.dbc := rfl
@[simp] theorem State.setTray_jnu (s : State) (l : Lane) (t : List TrayEntry) (o : TrayOp) : (s.setTray l t o).jnu = s.jnu := rfl
@[simp] theorem State.setTray_lki (s : State) (l : Lane) (t : List TrayEntry) (o : TrayOp) : (s.setTray l t o).lki = s.lki := rfl
@[simp] theorem State.setTray_drives (s : State) (l : Lane) (t : List TrayEntry) (o : TrayOp) : (s.setTray l t o).drives = s.drives := rfl
@[simp] theorem State.setTray_freeCount (s : State) (l : Lane) (t : List TrayEntry) (o : TrayOp) : (s.setTray l t o).freeCount = s.freeCount := rfl
@[simp] theorem State.setTray_lane (s : State) (l : Lane) (t : List TrayEntry) (o : TrayOp) (m : Lane) : (s.setTray l t o).lane m = s.lane m := rfl
@[simp] theorem State.setTray_session (s : State) (l : Lane) (t : List TrayEntry) (o : TrayOp) (m : Lane) : (s.setTray l t o).session m = s.session m := rfl
@[simp] theorem State.setTray_tube (s : State) (l : Lane) (t : List TrayEntry) (o : TrayOp) (m : TubeNo) : (s.setTray l t o).tube m = s.tube m := rfl

@[simp] theorem State.setReceiver_pending (s : State) (r : Receiver) : (s.setReceiver r).pending = s.pending := rfl
@[simp] theorem State.setReceiver_part (s : State) (r : Receiver) : (s.setReceiver r).part = s.part := rfl
@[simp] theorem State.setReceiver_warnHeld (s : State) (r : Receiver) : (s.setReceiver r).warnHeld = s.warnHeld := rfl
@[simp] theorem State.setReceiver_warned (s : State) (r : Receiver) : (s.setReceiver r).warned = s.warned := rfl
@[simp] theorem State.setReceiver_start (s : State) (r : Receiver) : (s.setReceiver r).start = s.start := rfl
@[simp] theorem State.setReceiver_resetPending (s : State) (r : Receiver) : (s.setReceiver r).resetPending = s.resetPending := rfl
@[simp] theorem State.setReceiver_clk (s : State) (r : Receiver) : (s.setReceiver r).clk = s.clk := rfl
@[simp] theorem State.setReceiver_tablesCleared (s : State) (r : Receiver) : (s.setReceiver r).tablesCleared = s.tablesCleared := rfl
@[simp] theorem State.setReceiver_financialLost (s : State) (r : Receiver) : (s.setReceiver r).financialLost = s.financialLost := rfl
@[simp] theorem State.setReceiver_saleSeq (s : State) (r : Receiver) : (s.setReceiver r).saleSeq = s.saleSeq := rfl
@[simp] theorem State.setReceiver_timers (s : State) (r : Receiver) : (s.setReceiver r).timers = s.timers := rfl
@[simp] theorem State.setReceiver_lanes (s : State) (r : Receiver) : (s.setReceiver r).lanes = s.lanes := rfl
@[simp] theorem State.setReceiver_restore (s : State) (r : Receiver) : (s.setReceiver r).restore = s.restore := rfl
@[simp] theorem State.setReceiver_fcu (s : State) (r : Receiver) : (s.setReceiver r).fcu = s.fcu := rfl
@[simp] theorem State.setReceiver_ciu (s : State) (r : Receiver) : (s.setReceiver r).ciu = s.ciu := rfl
@[simp] theorem State.setReceiver_chu (s : State) (r : Receiver) : (s.setReceiver r).chu = s.chu := rfl
@[simp] theorem State.setReceiver_cdu (s : State) (r : Receiver) : (s.setReceiver r).cdu = s.cdu := rfl
@[simp] theorem State.setReceiver_crt (s : State) (r : Receiver) : (s.setReceiver r).crt = s.crt := rfl
@[simp] theorem State.setReceiver_pru (s : State) (r : Receiver) : (s.setReceiver r).pru = s.pru := rfl
@[simp] theorem State.setReceiver_dbc (s : State) (r : Receiver) : (s.setReceiver r).dbc = s.dbc := rfl
@[simp] theorem State.setReceiver_jnu (s : State) (r : Receiver) : (s.setReceiver r).jnu = s.jnu := rfl
@[simp] theorem State.setReceiver_drives (s : State) (r : Receiver) : (s.setReceiver r).drives = s.drives := rfl
@[simp] theorem State.setReceiver_freeCount (s : State) (r : Receiver) : (s.setReceiver r).freeCount = s.freeCount := rfl
@[simp] theorem State.setReceiver_lane (s : State) (r : Receiver) (m : Lane) : (s.setReceiver r).lane m = s.lane m := rfl
@[simp] theorem State.setReceiver_session (s : State) (r : Receiver) (m : Lane) : (s.setReceiver r).session m = s.session m := rfl
@[simp] theorem State.setReceiver_coin (s : State) (r : Receiver) (m : Lane) : (s.setReceiver r).coin m = s.coin m := rfl
@[simp] theorem State.setReceiver_tube (s : State) (r : Receiver) (m : TubeNo) : (s.setReceiver r).tube m = s.tube m := rfl

end Sys2Proof.Machine
end

