-- ==== Sys2Proof/Laws/Link.lean ====
section
/-! SUPPORT. What the shared operations over the link can do: notices, conditions, replies, the transmitter, and what
settles at the end of a command. An `_only` lemma names the one block an operation touches. -/

namespace Sys2Proof.Machine

/-! ## Notices and replies -/

theorem State.notify_only (s : State) (n : Notice) : s.notify n = { s with lki := (s.notify n).lki } := by
  unfold State.notify; split <;> rfl

theorem State.notify_lki (s : State) (n : Notice) :
    (s.notify n).lki =
      if s.lki.notices.length < 32 then { s.lki with notices := s.lki.notices ++ [n] }
      else { s.lki with noticesLost := true, lostCount := bump255 s.lki.lostCount } := by
  unfold State.notify; split <;> rfl

theorem State.reply_only (s : State) (c : Status) (bs : List Byte) :
    s.reply c bs = { s with lki := (s.reply c bs).lki } := by
  unfold State.reply; split <;> rfl

theorem State.reply_of_hold (s : State) (c : Status) (bs : List Byte) (h : Held) (hs : List Held)
    (hh : s.lki.hold = h :: hs) :
    s.reply c bs = { s with lki := { s.lki with ready := some ⟨h.code, h.lane, h.tag, c, bs⟩ } } := by
  simp [State.reply, hh]

/-! ## Conditions -/

theorem Cond.mem_all (c : Cond) : c ∈ Cond.all := by
  cases c with
  | tubeLow n => cases n <;> decide
  | coinJam l => cases l <;> decide
  | headLost l => cases l <;> decide
  | cardPath l => cases l <;> decide
  | exactChange l => cases l <;> decide
  | _ => decide

@[simp] theorem Cond.mem_insert (c d : Cond) (cs : List Cond) : d ∈ c.insert cs ↔ d = c ∨ d ∈ cs := by
  simp [Cond.insert, Cond.mem_all]

@[simp] theorem Cond.mem_remove (c d : Cond) (cs : List Cond) : d ∈ c.remove cs ↔ d ∈ cs ∧ d ≠ c := by
  simp [Cond.remove]

theorem State.declare_only (s : State) (c : Cond) : s.declare c = { s with lki := (s.declare c).lki } := by
  unfold State.declare
  split
  · rfl
  · dsimp only
    split
    · rfl
    · rw [State.notify_only]

theorem State.clear_only (s : State) (c : Cond) : s.clear c = { s with lki := (s.clear c).lki } := by
  unfold State.clear
  split
  · dsimp only
    split
    · rw [State.notify_only]
    · rfl
  · rfl

theorem State.notify_conds (s : State) (n : Notice) : (s.notify n).lki.conds = s.lki.conds := by
  rw [State.notify_lki]; split <;> rfl

theorem State.mem_conds_declare (s : State) (c d : Cond) :
    d ∈ (s.declare c).lki.conds ↔ d = c ∨ d ∈ s.lki.conds := by
  unfold State.declare
  split
  · rename_i h
    constructor
    · exact Or.inr
    · rintro (rfl | h')
      · exact h
      · exact h'
  · dsimp only
    split <;> simp [State.notify_conds]

theorem State.mem_conds_clear (s : State) (c d : Cond) :
    d ∈ (s.clear c).lki.conds ↔ d ∈ s.lki.conds ∧ d ≠ c := by
  unfold State.clear
  split
  · dsimp only
    split <;> simp [State.notify_conds]
  · rename_i h
    constructor
    · intro h'
      exact ⟨h', fun e => h (e ▸ h')⟩
    · exact And.left

/-! ## The fields of the link that notices, conditions and replies leave -/

@[simp] theorem State.notify_hold (s : State) (n : Notice) : (s.notify n).lki.hold = s.lki.hold := by
  rw [State.notify_lki]; split <;> rfl
@[simp] theorem State.notify_tx (s : State) (n : Notice) : (s.notify n).lki.tx = s.lki.tx := by
  rw [State.notify_lki]; split <;> rfl
@[simp] theorem State.notify_ready (s : State) (n : Notice) : (s.notify n).lki.ready = s.lki.ready := by
  rw [State.notify_lki]; split <;> rfl

@[simp] theorem State.declare_hold (s : State) (c : Cond) : (s.declare c).lki.hold = s.lki.hold := by
  unfold State.declare; split
  · rfl
  · dsimp only; split <;> simp
@[simp] theorem State.declare_tx (s : State) (c : Cond) : (s.declare c).lki.tx = s.lki.tx := by
  unfold State.declare; split
  · rfl
  · dsimp only; split <;> simp
@[simp] theorem State.declare_ready (s : State) (c : Cond) : (s.declare c).lki.ready = s.lki.ready := by
  unfold State.declare; split
  · rfl
  · dsimp only; split <;> simp

@[simp] theorem State.clear_hold (s : State) (c : Cond) : (s.clear c).lki.hold = s.lki.hold := by
  unfold State.clear; split
  · dsimp only; split <;> simp
  · rfl
@[simp] theorem State.clear_tx (s : State) (c : Cond) : (s.clear c).lki.tx = s.lki.tx := by
  unfold State.clear; split
  · dsimp only; split <;> simp
  · rfl
@[simp] theorem State.clear_ready (s : State) (c : Cond) : (s.clear c).lki.ready = s.lki.ready := by
  unfold State.clear; split
  · dsimp only; split <;> simp
  · rfl

/-! ## The transmitter (R201) -/

theorem State.pump_only (s : State) : s.pump = { s with lki := s.pump.lki } := by
  unfold State.pump
  split
  · rfl
  · split
    · rfl
    · split <;> rfl

theorem State.pump_busy (s : State) (h : s.lki.tx ≠ none) : s.pump = s := by
  unfold State.pump
  split
  · rfl
  · contradiction

theorem State.pump_reply (s : State) (r : Reply) (h : s.lki.tx = none) (hr : s.lki.ready = some r) :
    s.pump = { s with lki := { s.lki with tx := some (.reply r), ready := none } } := by
  simp [State.pump, h, hr]

theorem State.pump_notice (s : State) (n : Notice) (ns : List Notice) (h : s.lki.tx = none)
    (hr : s.lki.ready = none) (hn : s.lki.notices = n :: ns) :
    s.pump = { s with lki := { s.lki with tx := some (.notice n), notices := ns } } := by
  simp [State.pump, h, hr, hn]

theorem State.pump_idle (s : State) (hr : s.lki.ready = none) (hn : s.lki.notices = []) : s.pump = s := by
  unfold State.pump
  split
  · rfl
  · simp [hr, hn]

theorem State.pump_line (s : State) (h : s.pump.lki.tx = none) :
    s.pump.lki.ready = none ∧ s.pump.lki.notices = [] := by
  unfold State.pump at *
  split at h
  · simp_all
  · split at h
    · simp at h
    · split at h
      · simp at h
      · simp_all

/-! ## What settles (R26, R28) -/

theorem State.snap_of_settled (s : State) (l : Lane) (h : s.snapSettled l) : s.snap l = s := by
  unfold State.snapSettled at h
  simp only [State.snap]
  rw [← h]
  change { s with lanes := s.lanes.set l (s.lanes.get l) } = s
  rw [PerLane.set_get]

theorem State.snap_lane (s : State) (l m : Lane) :
    (s.snap l).lane m =
      if m = l then
        { s.lane l with snapshot := (s.lane l).sale.map fun x => ⟨x, (s.lane l).state, (s.coin l).tray⟩ }
      else s.lane m := by
  simp [State.snap]

theorem State.refreshScan_of_settled (s : State) (l : Lane) (h : s.scanSettled l) : s.refreshScan l = s := by
  unfold State.refreshScan
  cases hw : s.scanWanted l
  · have h2 := h.2 hw
    simp only [Bool.false_eq_true, if_false]
    rw [if_neg h2]
  · have h1 := h.1 hw
    simp only [if_true]
    rw [if_neg]
    rintro ⟨h3, h4⟩
    rcases h1 with h1 | h1
    · exact h1 h3
    · exact h1 h4

/-- With idle polling and snapshots as they should be, only the transmitter moves at the end of a command. -/
theorem State.settle_eq_pump (s : State) (h1 : ∀ l, s.scanSettled l) (h2 : ∀ l, s.snapSettled l) :
    s.settle = s.pump := by
  unfold State.settle State.forLanes
  rw [State.refreshScan_of_settled s .a (h1 .a), State.refreshScan_of_settled s .b (h1 .b),
    State.snap_of_settled s .a (h2 .a), State.snap_of_settled s .b (h2 .b)]

/-- Whether idle polling and snapshots stand as they should depends on the lanes, the coin lanes, the sessions, the
recovery table and the part alone. -/
theorem State.scanSettled_congr {s t : State} {l : Lane} (h : s.scanSettled l) (hl : t.lanes = s.lanes)
    (hc : t.cdu = s.cdu) (hr : t.crt = s.crt) (hp : t.part = s.part) : t.scanSettled l := by
  have h1 : t.session l = s.session l := by simp [State.session, hc]
  have h2 : t.lane l = s.lane l := by simp [State.lane, hl]
  have hw : t.scanWanted l = s.scanWanted l := by simp [State.scanWanted, h2, hr, hp]
  unfold State.scanSettled at *
  rw [hw, h1, h2]
  exact h

theorem State.snapSettled_congr {s t : State} {l : Lane} (h : s.snapSettled l) (hl : t.lanes = s.lanes)
    (hc : (t.coin l).tray = (s.coin l).tray) : t.snapSettled l := by
  have h2 : t.lane l = s.lane l := by simp [State.lane, hl]
  unfold State.snapSettled at *
  rw [h2, hc]
  exact h

theorem State.settle_of_same {s t : State} (h : s.Settled) (hl : t.lanes = s.lanes) (hc : t.cdu = s.cdu)
    (hr : t.crt = s.crt) (hp : t.part = s.part) (hi : ∀ l, (t.coin l).tray = (s.coin l).tray) :
    t.settle = t.pump :=
  t.settle_eq_pump (fun l => State.scanSettled_congr (h.scan l) hl hc hr hp)
    fun l => State.snapSettled_congr (h.snap l) hl (hi l)

/-- A command that leaves the transmitter's work as it stood leaves nothing to settle. -/
theorem State.settle_of_still {s t : State} (h : s.Settled) (hl : t.lanes = s.lanes) (hc : t.cdu = s.cdu)
    (hr : t.crt = s.crt) (hp : t.part = s.part) (hi : ∀ l, (t.coin l).tray = (s.coin l).tray)
    (hx : t.lki.tx = s.lki.tx) (hy : t.lki.ready = s.lki.ready) (hn : t.lki.notices = s.lki.notices) :
    t.settle = t := by
  rw [State.settle_of_same h hl hc hr hp hi]
  by_cases k : t.lki.tx = none
  · have := h.line (hx ▸ k)
    exact State.pump_idle t (hy.trans this.1) (hn.trans this.2)
  · exact State.pump_busy t k

/-! ## A request that finds the hold empty (R199, R200) -/

/-- A command that carries a request offers it to the hold. -/
theorem exec_of_carriage {c : Instr} {x : Carriage} (s : State) (h : carriage c = some x) :
    exec c s = s.run fun t => t.request x.lane x.tag x.req := by
  cases c <;> cases h <;> rfl

theorem requestCode_lt (r : Request) : requestCode r < 0x80 := by
  cases r <;> simp [requestCode]

theorem State.request_taken (s : State) (lane tag : Nat) (r : Request) (h : s.lki.hold = [])
    (hr : requestSize r ≤ 240) : s.begin.request lane tag r = (s.taking lane tag r).serve := by
  have hc := requestCode_lt r
  have h1 : ¬ (0x80 ≤ requestCode r ∨ 240 < requestSize r ∨ 2 ≤ s.begin.lki.hold.length) := by
    simp [h]; omega
  unfold State.request State.acceptFrame
  rw [if_neg h1]
  simp [State.taking, h, State.begin]

/-- Past the gate a request goes to its owner (R200). -/
theorem State.serve_taking (s : State) (lane tag : Nat) (r : Request) (hp : s.takesRequests)
    (h1 : r ≠ .unknown) (h2 : r ≠ .badLength) :
    (s.taking lane tag r).serve = (s.taking lane tag r).perform ⟨requestCode r, lane, tag, r⟩ := by
  have hg : (s.taking lane tag r).gate ⟨requestCode r, lane, tag, r⟩ = none := by
    simp [State.gate, State.taking, h1, h2, hp.1, hp.2]
  simp only [State.taking] at hg
  simp [State.serve, State.taking, hg]

/-- What a reply leaves once its command has settled: `u` is the state the request has made, but for the held frame. -/
theorem State.reply_settles {s u : State} (h : s.Settled) (lane tag : Nat) (r : Request) (c : Status)
    (body : List Byte) (hl : u.lanes = s.lanes) (hc : u.cdu = s.cdu) (hr : u.crt = s.crt) (hp : u.part = s.part)
    (hi : ∀ l, (u.coin l).tray = (s.coin l).tray) (hk : u.lki.tx = none → u.lki.ready = none) :
    (State.reply { u with lki := { u.lki with hold := [⟨requestCode r, lane, tag, r⟩] } } c body).settle =
      u.sends lane tag r c body := by
  rw [State.reply_of_hold _ c body ⟨requestCode r, lane, tag, r⟩ [] rfl]
  rw [State.settle_of_same (s := s)
    (t := { u with
      lki := { u.lki with
        hold := [⟨requestCode r, lane, tag, r⟩]
        ready := some ⟨requestCode r, lane, tag, c, body⟩ } }) h hl hc hr hp hi]
  cases htx : u.lki.tx with
  | some x =>
    rw [State.pump_busy _ (by simp [htx])]
    simp [State.sends, htx]
  | none =>
    rw [State.pump_reply _ _ (by simp [htx]) rfl]
    simp [State.sends, htx, hk htx]

/-- A request that passes the gate is performed, and the command settles. -/
theorem State.run_gate {s : State} (lane tag : Nat) (r : Request) (h0 : s.lki.hold = []) (hr : requestSize r ≤ 240)
    (hg : (s.taking lane tag r).gate ⟨requestCode r, lane, tag, r⟩ = none) :
    s.run (fun t => t.request lane tag r) =
      .next ((s.taking lane tag r).perform ⟨requestCode r, lane, tag, r⟩).settle := by
  change Host.Outcome.next (s.begin.request lane tag r).settle = _
  rw [State.request_taken s lane tag r h0 hr]
  simp only [State.taking] at hg
  simp [State.serve, State.taking, hg]

/-- In a part state that takes requests of every kind, a request of the catalogue is performed. -/
theorem State.run_request {s : State} (lane tag : Nat) (r : Request) (h0 : s.lki.hold = [])
    (hr : requestSize r ≤ 240) (hp : s.takesRequests) (h1 : r ≠ .unknown) (h2 : r ≠ .badLength) :
    s.run (fun t => t.request lane tag r) =
      .next ((s.taking lane tag r).perform ⟨requestCode r, lane, tag, r⟩).settle :=
  State.run_gate lane tag r h0 hr (by simp [State.gate, State.taking, h1, h2, hp.1, hp.2])

/-- A request that the gate refuses is answered with its code, and nothing else changes (R200). -/
theorem State.run_gated {s : State} (h : s.Settled) (lane tag : Nat) (r : Request) (c : Status)
    (h0 : s.lki.hold = []) (hr : requestSize r ≤ 240)
    (hg : (s.taking lane tag r).gate ⟨requestCode r, lane, tag, r⟩ = some c) :
    s.run (fun t => t.request lane tag r) = .next (s.quiet.sends lane tag r c []) := by
  change Host.Outcome.next (s.begin.request lane tag r).settle = _
  rw [State.request_taken s lane tag r h0 hr]
  have e : (s.taking lane tag r).serve = (s.taking lane tag r).reply c [] := by
    simp only [State.taking] at hg
    simp [State.serve, State.taking, hg]
  rw [e]
  exact congrArg _ (State.reply_settles (u := s.quiet) h lane tag r c [] rfl rfl rfl rfl (fun _ => rfl)
    fun e => (h.line e).1)

end Sys2Proof.Machine
end

