-- ==== Sys2Proof/Laws/Footprint.lean ====
section
/-! SUPPORT. The footprint of every shared operation: `s.Touches fs t` says that `t` agrees with `s` on every field of the
state but those in `fs`. A proof reads a field it needs off an operation's lemma: `(s.store_touches b).clk`. -/

-- One proof at a time: many threads at once run out of memory.
set_option Elab.async false

namespace Sys2Proof.Machine

/-- The fields of the state. -/
inductive Field where
  | pending
  | part
  | warnHeld
  | warned
  | start
  | resetPending
  | clk
  | tablesCleared
  | financialLost
  | saleSeq
  | timers
  | lanes
  | restore
  | fcu
  | ciu
  | chu
  | cdu
  | crt
  | pru
  | dbc
  | jnu
  | lki
  | drives
  | freeCount
  deriving DecidableEq, Repr

/-- Two states agree on a field. -/
def State.sameOn (s t : State) : Field → Prop
  | .pending => t.pending = s.pending
  | .part => t.part = s.part
  | .warnHeld => t.warnHeld = s.warnHeld
  | .warned => t.warned = s.warned
  | .start => t.start = s.start
  | .resetPending => t.resetPending = s.resetPending
  | .clk => t.clk = s.clk
  | .tablesCleared => t.tablesCleared = s.tablesCleared
  | .financialLost => t.financialLost = s.financialLost
  | .saleSeq => t.saleSeq = s.saleSeq
  | .timers => t.timers = s.timers
  | .lanes => t.lanes = s.lanes
  | .restore => t.restore = s.restore
  | .fcu => t.fcu = s.fcu
  | .ciu => t.ciu = s.ciu
  | .chu => t.chu = s.chu
  | .cdu => t.cdu = s.cdu
  | .crt => t.crt = s.crt
  | .pru => t.pru = s.pru
  | .dbc => t.dbc = s.dbc
  | .jnu => t.jnu = s.jnu
  | .lki => t.lki = s.lki
  | .drives => t.drives = s.drives
  | .freeCount => t.freeCount = s.freeCount

/-- `t` agrees with `s` on every field but those in `fs`. -/
def State.Touches (s : State) (fs : List Field) (t : State) : Prop := ∀ f, f ∉ fs → s.sameOn t f

theorem State.Touches.refl (fs : List Field) (s : State) : s.Touches fs s := by
  intro f _
  cases f <;> rfl

theorem State.Touches.of_eq {fs : List Field} {s t : State} (h : t = s) : s.Touches fs t := h ▸ .refl fs s

theorem State.Touches.mono {fs gs : List Field} {s t : State} (h : s.Touches fs t) (k : fs ⊆ gs := by decide) :
    s.Touches gs t := fun f hf => h f fun e => hf (k e)

theorem State.sameOn_trans {s t u : State} {f : Field} (h1 : s.sameOn t f) (h2 : t.sameOn u f) : s.sameOn u f := by
  cases f <;> exact Eq.trans h2 h1

/-- An operation after others: the fields it touches are among theirs. -/
theorem State.Touches.then {fs gs : List Field} {s t u : State} (h1 : s.Touches fs t) (h2 : t.Touches gs u)
    (k : gs ⊆ fs := by decide) : s.Touches fs u :=
  fun f hf => State.sameOn_trans (h1 f hf) (h2 f fun e => hf (k e))

/-- An operation that is done or not. -/
theorem State.Touches.ite {fs : List Field} {s t u : State} {p : Prop} [Decidable p] (h1 : p → s.Touches fs t)
    (h2 : ¬ p → s.Touches fs u) : s.Touches fs (if p then t else u) := by
  split
  · exact h1 ‹_›
  · exact h2 ‹_›

theorem State.Touches.forLanes {fs : List Field} {f : State → Lane → State} (h : ∀ (s : State) (l : Lane), s.Touches fs (f s l))
    (s : State) : s.Touches fs (s.forLanes f) := (h s .a).then (h _ .b) (List.Subset.refl fs)

theorem State.Touches.foldl {α : Type} {fs : List Field} {f : State → α → State} (h : ∀ (s : State) (x : α), s.Touches fs (f s x)) :
    ∀ (xs : List α) (s : State), s.Touches fs (xs.foldl f s)
  | [], s => .refl fs s
  | x :: xs, s => (h s x).then (State.Touches.foldl h xs _) (List.Subset.refl fs)

/-! ## Reading a field off a footprint -/

section

variable {fs : List Field} {s t : State} (h : s.Touches fs t)
include h

theorem State.Touches.pending (k : Field.pending ∉ fs := by decide) : t.pending = s.pending := h .pending k
theorem State.Touches.part (k : Field.part ∉ fs := by decide) : t.part = s.part := h .part k
theorem State.Touches.warnHeld (k : Field.warnHeld ∉ fs := by decide) : t.warnHeld = s.warnHeld := h .warnHeld k
theorem State.Touches.warned (k : Field.warned ∉ fs := by decide) : t.warned = s.warned := h .warned k
theorem State.Touches.start (k : Field.start ∉ fs := by decide) : t.start = s.start := h .start k
theorem State.Touches.resetPending (k : Field.resetPending ∉ fs := by decide) : t.resetPending = s.resetPending := h .resetPending k
theorem State.Touches.clk (k : Field.clk ∉ fs := by decide) : t.clk = s.clk := h .clk k
theorem State.Touches.tablesCleared (k : Field.tablesCleared ∉ fs := by decide) : t.tablesCleared = s.tablesCleared := h .tablesCleared k
theorem State.Touches.financialLost (k : Field.financialLost ∉ fs := by decide) : t.financialLost = s.financialLost := h .financialLost k
theorem State.Touches.saleSeq (k : Field.saleSeq ∉ fs := by decide) : t.saleSeq = s.saleSeq := h .saleSeq k
theorem State.Touches.timers (k : Field.timers ∉ fs := by decide) : t.timers = s.timers := h .timers k
theorem State.Touches.lanes (k : Field.lanes ∉ fs := by decide) : t.lanes = s.lanes := h .lanes k
theorem State.Touches.restore (k : Field.restore ∉ fs := by decide) : t.restore = s.restore := h .restore k
theorem State.Touches.fcu (k : Field.fcu ∉ fs := by decide) : t.fcu = s.fcu := h .fcu k
theorem State.Touches.ciu (k : Field.ciu ∉ fs := by decide) : t.ciu = s.ciu := h .ciu k
theorem State.Touches.chu (k : Field.chu ∉ fs := by decide) : t.chu = s.chu := h .chu k
theorem State.Touches.cdu (k : Field.cdu ∉ fs := by decide) : t.cdu = s.cdu := h .cdu k
theorem State.Touches.crt (k : Field.crt ∉ fs := by decide) : t.crt = s.crt := h .crt k
theorem State.Touches.pru (k : Field.pru ∉ fs := by decide) : t.pru = s.pru := h .pru k
theorem State.Touches.dbc (k : Field.dbc ∉ fs := by decide) : t.dbc = s.dbc := h .dbc k
theorem State.Touches.jnu (k : Field.jnu ∉ fs := by decide) : t.jnu = s.jnu := h .jnu k
theorem State.Touches.lki (k : Field.lki ∉ fs := by decide) : t.lki = s.lki := h .lki k
theorem State.Touches.drives (k : Field.drives ∉ fs := by decide) : t.drives = s.drives := h .drives k
theorem State.Touches.freeCount (k : Field.freeCount ∉ fs := by decide) : t.freeCount = s.freeCount := h .freeCount k

end

/-! ## One field written -/

variable (s : State)

theorem State.touch_part (x : PartState) : s.Touches [.part] { s with part := x } := by
  intro f hf; cases f <;> first | rfl | exact absurd (by decide) hf
theorem State.touch_lanes (x : PerLane LaneCtx) : s.Touches [.lanes] { s with lanes := x } := by
  intro f hf; cases f <;> first | rfl | exact absurd (by decide) hf
theorem State.touch_ciu (x : Ciu) : s.Touches [.ciu] { s with ciu := x } := by
  intro f hf; cases f <;> first | rfl | exact absurd (by decide) hf
theorem State.touch_chu (x : Chu) : s.Touches [.chu] { s with chu := x } := by
  intro f hf; cases f <;> first | rfl | exact absurd (by decide) hf
theorem State.touch_cdu (x : PerLane Session) : s.Touches [.cdu] { s with cdu := x } := by
  intro f hf; cases f <;> first | rfl | exact absurd (by decide) hf
theorem State.touch_crt (x : Crt) : s.Touches [.crt] { s with crt := x } := by
  intro f hf; cases f <;> first | rfl | exact absurd (by decide) hf
theorem State.touch_pru (x : Pru) : s.Touches [.pru] { s with pru := x } := by
  intro f hf; cases f <;> first | rfl | exact absurd (by decide) hf
theorem State.touch_dbc (x : Dbc) : s.Touches [.dbc] { s with dbc := x } := by
  intro f hf; cases f <;> first | rfl | exact absurd (by decide) hf
theorem State.touch_jnu (x : Jnu) : s.Touches [.jnu] { s with jnu := x } := by
  intro f hf; cases f <;> first | rfl | exact absurd (by decide) hf
theorem State.touch_lki (x : Lki) : s.Touches [.lki] { s with lki := x } := by
  intro f hf; cases f <;> first | rfl | exact absurd (by decide) hf
theorem State.touch_restore (x : Option Restore) : s.Touches [.restore] { s with restore := x } := by
  intro f hf; cases f <;> first | rfl | exact absurd (by decide) hf
theorem State.touch_clk (x : Clock) : s.Touches [.clk] { s with clk := x } := by
  intro f hf; cases f <;> first | rfl | exact absurd (by decide) hf
theorem State.touch_drives (x : List Drive) : s.Touches [.drives] { s with drives := x } := by
  intro f hf; cases f <;> first | rfl | exact absurd (by decide) hf
theorem State.touch_resetPending (x : Bool) : s.Touches [.resetPending] { s with resetPending := x } := by
  intro f hf; cases f <;> first | rfl | exact absurd (by decide) hf
theorem State.touch_saleSeq (x : Nat) : s.Touches [.saleSeq] { s with saleSeq := x } := by
  intro f hf; cases f <;> first | rfl | exact absurd (by decide) hf
theorem State.touch_freeCount (x : Nat) : s.Touches [.freeCount] { s with freeCount := x } := by
  intro f hf; cases f <;> first | rfl | exact absurd (by decide) hf
theorem State.touch_fcu (x : Tariff) : s.Touches [.fcu] { s with fcu := x } := by
  intro f hf; cases f <;> first | rfl | exact absurd (by decide) hf
theorem State.touch_timers (x : Timers) : s.Touches [.timers] { s with timers := x } := by
  intro f hf; cases f <;> first | rfl | exact absurd (by decide) hf
theorem State.touch_report (b : Bool) (x : Lki) :
    s.Touches [.financialLost, .lki] { s with financialLost := b, lki := x } := by
  intro f hf; cases f <;> first | rfl | exact absurd (by decide) hf

/-! ## Access and the link -/

theorem State.setLane_touches (l : Lane) (x : LaneCtx) : s.Touches [.lanes] (s.setLane l x) := s.touch_lanes _
theorem State.modSale_touches (l : Lane) (f : Sale → Sale) : s.Touches [.lanes] (s.modSale l f) := s.touch_lanes _
theorem State.setSession_touches (l : Lane) (x : Session) : s.Touches [.cdu] (s.setSession l x) := s.touch_cdu _
theorem State.setCoin_touches (l : Lane) (x : CoinLane) : s.Touches [.ciu] (s.setCoin l x) := s.touch_ciu _
theorem State.setTube_touches (n : TubeNo) (x : Tube) : s.Touches [.chu] (s.setTube n x) := s.touch_chu _
theorem State.drive_touches (d : Drive) : s.Touches [.drives] (s.drive d) := s.touch_drives _

theorem State.notify_touches (n : Notice) : s.Touches [.lki] (s.notify n) := by
  rw [State.notify_only]; exact s.touch_lki _
theorem State.declare_touches (c : Cond) : s.Touches [.lki] (s.declare c) := by
  rw [State.declare_only]; exact s.touch_lki _
theorem State.clear_touches (c : Cond) : s.Touches [.lki] (s.clear c) := by
  rw [State.clear_only]; exact s.touch_lki _
theorem State.reply_touches (c : Status) (bs : List Byte) : s.Touches [.lki] (s.reply c bs) := by
  rw [State.reply_only]; exact s.touch_lki _
theorem State.pump_touches : s.Touches [.lki] s.pump := by
  rw [State.pump_only]; exact s.touch_lki _

/-! ## Journal (R168 to R182) -/

theorem State.tally_touches (f : Totals → Totals) : s.Touches [.jnu] (s.tally f) := s.touch_jnu _

theorem State.highCheck_touches (n : Nat) : s.Touches [.jnu, .lki] (s.highCheck n) :=
  .ite (fun _ => (s.touch_jnu _).mono.then (State.notify_touches _ _)) fun _ => .refl _ s

theorem State.store_touches (b : RecordBody) : s.Touches [.jnu, .lki] (s.store b) :=
  (s.touch_jnu _).mono.then (State.highCheck_touches _ _)

theorem State.recordLost_touches : s.Touches [.jnu] s.recordLost := s.touch_jnu _

theorem State.storeOther_touches (b : RecordBody) : s.Touches [.jnu, .lki] (s.storeOther b) :=
  .ite (fun _ => s.store_touches b) fun _ => s.recordLost_touches.mono

theorem State.takeSnapshot_touches (m : SnapshotMode) : s.Touches [.jnu, .lki] (s.takeSnapshot m) :=
  ((s.touch_jnu _).mono.then (State.store_touches _ _)).then (State.touch_jnu _ _)

theorem State.tryAuto_touches (d : Nat) : s.Touches [.jnu, .lki] (s.tryAuto d) :=
  .ite (fun _ => (s.takeSnapshot_touches _).then (State.touch_jnu _ _)) fun _ => (s.touch_jnu _).mono

theorem State.releaseRecords_touches (n : Nat) : s.Touches [.jnu] (s.releaseRecords n) := s.touch_jnu _

/-! ## Device bus (R152 to R160) -/

theorem State.grant_touches (d : Dev) (r : BusReq) : s.Touches [.dbc, .drives] (s.grant d r) :=
  (s.touch_dbc _).mono.then (State.drive_touches _ _)

theorem State.place_touches (d : Dev) (r : BusReq) : s.Touches [.dbc, .drives] (s.place d r) :=
  .ite (fun _ => s.grant_touches d r) fun _ => (s.touch_dbc _).mono

theorem State.withdraw_touches (d : Dev) : s.Touches [.dbc] (s.withdraw d) := s.touch_dbc _

theorem State.grantNext_touches : s.Touches [.dbc, .drives] s.grantNext := by
  unfold State.grantNext
  split
  · exact s.grant_touches _ _
  · exact (s.touch_dbc _).mono

theorem State.endExchange_touches (d : Dev) (o : ExOutcome) : s.Touches [.dbc, .drives] (s.endExchange d o) :=
  (s.touch_dbc _).mono.then (State.drive_touches _ _)

theorem State.busSent_touches : s.Touches [.dbc] s.busSent := by
  unfold State.busSent
  split
  · exact .ite (fun _ => s.touch_dbc _) fun _ => .refl _ s
  · exact .refl _ s

theorem State.busLow_touches : s.Touches [.dbc] s.busLow := s.touch_dbc _
theorem State.busRise_touches : s.Touches [.dbc] s.busRise := s.touch_dbc _

/-! ## Printer (R133 to R151) -/

theorem State.printNext_touches : s.Touches [.pru, .dbc, .drives] s.printNext := by
  unfold State.printNext
  split
  · exact (s.touch_pru _).mono.then (State.place_touches _ _ _)
  · exact .refl _ s

theorem State.wantStatus_touches : s.Touches [.pru, .dbc, .drives] s.wantStatus :=
  (s.touch_pru _).mono.then (State.printNext_touches _)

theorem State.setPaperLow_touches (b : Bool) : s.Touches [.pru, .lki] (s.setPaperLow b) :=
  .ite (fun _ => (s.touch_pru _).mono.then (State.declare_touches _ _)) fun _ =>
    (s.touch_pru _).mono.then (State.clear_touches _ _)

theorem State.evalPaperLow_touches : s.Touches [.pru, .lki] s.evalPaperLow := by
  unfold State.evalPaperLow
  dsimp only
  repeat' split
  all_goals first | exact .refl _ s | exact s.setPaperLow_touches _

theorem State.setPrinter_touches (p : PrinterState) : s.Touches [.pru, .lki] (s.setPrinter p) := by
  unfold State.setPrinter
  dsimp only
  split
  · exact .refl _ s
  · have h := (s.touch_pru { s.pru with printer := p, hold := holdAfter s.pru.printer p s.pru.hold }).mono
      (gs := [.pru, .lki])
    repeat' split
    · exact (h.then (State.clear_touches _ _)).then (State.declare_touches _ _)
    · exact h.then (State.declare_touches _ _)
    · exact h.then (State.clear_touches _ _)
    · exact h

theorem State.printStart_touches : s.Touches [.pru, .lki, .dbc, .drives] s.printStart := by
  unfold State.printStart
  split
  · split
    · exact ((s.touch_pru _).mono.then (State.setPrinter_touches _ _)).then (State.printNext_touches _)
    · exact .refl _ s
  · exact .refl _ s

theorem State.addJob_touches (k : JobKind) (l : Option Lane) (n : Nat) (ls : List (List Byte)) :
    s.Touches [.pru] (s.addJob k l n ls).1 := s.touch_pru _

theorem State.endJob_touches (j : Job) (o : JobOutcome) : s.Touches [.pru, .lki] (s.endJob j o) :=
  (s.touch_pru _).mono.then (State.notify_touches _ _)

theorem State.askJob_touches (k : JobKind) (l : Option Lane) (n : Nat) (ls : List (List Byte)) :
    s.Touches [.pru, .lki, .dbc, .drives] (s.askJob k l n ls).1 := by
  unfold State.askJob
  split
  · exact (s.addJob_touches k l n ls).mono.then (State.printStart_touches _)
  · exact (s.notify_touches _).mono

theorem State.storeNote_touches (l : Lane) (n x : Nat) (b : Bool) (j : Option Nat) :
    s.Touches [.jnu, .lki] (s.storeNote l n x b j) := s.store_touches _

theorem State.settleNote_touches (n : PendingNote) (b : Bool) (j : Option Nat) :
    s.Touches [.pru, .jnu, .lki] (s.settleNote n b j) :=
  (s.touch_pru _).mono.then (State.storeNote_touches _ _ _ _ _ _)

theorem State.askNote_touches (l : Lane) (x : Sale) (o : SaleOutcome) :
    s.Touches [.pru, .dbc, .jnu, .lki, .drives] (s.askNote l x o) := by
  unfold State.askNote
  dsimp only
  split
  · exact ((s.addJob_touches _ _ _ _).mono.then (State.touch_pru _ _)).then (State.printStart_touches _)
  · exact (s.notify_touches _).mono.then (State.storeNote_touches _ _ _ _ _ _)

theorem State.requeueNote_touches (j : Job) : s.Touches [.pru, .lki] (s.requeueNote j) :=
  (s.touch_pru _).mono.then (State.notify_touches _ _)

theorem State.notePrinted_touches (j : Job) : s.Touches [.pru, .jnu, .lki] (s.notePrinted j) := by
  unfold State.notePrinted
  split
  · exact s.settleNote_touches _ _ _
  · exact .refl _ s

theorem State.endQueued_touches (ks : List JobKind) (o : JobOutcome) : s.Touches [.pru, .lki] (s.endQueued ks o) :=
  .foldl (fun t j => t.endJob_touches j o) _ s

theorem State.setTicketSlot_touches (l : Lane) (b : Bool) : s.Touches [.pru] (s.setTicketSlot l b) := s.touch_pru _

theorem State.askReceipt_touches (l : Lane) (x : Sale) (n : Nat) :
    s.Touches [.pru, .lki, .dbc, .drives] (s.askReceipt l x n) := by
  unfold State.askReceipt
  dsimp only
  split
  · exact (s.notify_touches _).mono
  · exact s.askJob_touches _ _ _ _

theorem State.queueTicket_touches (l : Lane) (x : Sale) :
    s.Touches [.pru, .lki, .dbc, .drives] (s.queueTicket l x).1 := by
  have h := ((s.setTicketSlot_touches l false).then
    (State.addJob_touches _ .ticket (some l) x.seq (s.ticketLines l x))).mono (gs := [.pru, .lki, .dbc, .drives])
  unfold State.queueTicket
  dsimp only
  repeat' split
  · exact h.then (State.endJob_touches _ _ _)
  · exact h
  · exact h.then (State.printStart_touches _)

/-! ## Change unit (R78 to R99) -/

theorem State.setRes_touches (l : Lane) (p : Plan) : s.Touches [.chu] (s.setRes l p) := s.touch_chu _

theorem State.setLow_touches (n : TubeNo) (b : Bool) : s.Touches [.chu, .lki] (s.setLow n b) :=
  .ite (fun _ => (s.setTube_touches _ _).mono.then (State.declare_touches _ _)) fun _ =>
    (s.setTube_touches _ _).mono.then (State.clear_touches _ _)

theorem State.evalLow_touches (n : TubeNo) : s.Touches [.chu, .lki] (s.evalLow n) := by
  unfold State.evalLow
  dsimp only
  repeat' split
  all_goals first | exact .refl _ s | exact s.setLow_touches _ _

theorem State.evalLows_touches : s.Touches [.chu, .lki] s.evalLows := .foldl (fun t n => t.evalLow_touches n) _ s

theorem State.startLow_touches (n : TubeNo) : s.Touches [.chu, .lki] (s.startLow n) :=
  .ite (fun _ => s.setLow_touches _ _) fun _ => s.setLow_touches _ _

theorem State.startLows_touches : s.Touches [.chu, .lki] s.startLows := .foldl (fun t n => t.startLow_touches n) _ s

theorem State.assure_touches (l : Lane) (n : Nat) : s.Touches [.chu, .lki] (s.assure l n).1 := by
  unfold State.assure
  split
  · dsimp only
    exact ((s.setRes_touches _ _).mono.then (State.evalLows_touches _)).then (State.clear_touches _ _)
  · exact (s.declare_touches _).mono

theorem State.releaseRes_touches (l : Lane) : s.Touches [.chu, .lki] (s.releaseRes l) :=
  ((s.setRes_touches _ _).mono.then (State.evalLows_touches _)).then (State.clear_touches _ _)

theorem State.setCount_touches (n : TubeNo) (c : Nat) : s.Touches [.chu] (s.setCount n c) := s.touch_chu _
theorem State.pendUp_touches (n : TubeNo) : s.Touches [.chu] (s.pendUp n) := s.touch_chu _
theorem State.pendDown_touches (n : TubeNo) : s.Touches [.chu] (s.pendDown n) := s.touch_chu _

theorem State.tubeCoin_touches (n : TubeNo) (d : Nat) : s.Touches [.chu, .jnu, .lki] (s.tubeCoin n d) :=
  ((s.setCount_touches _ _).mono.then (State.evalLow_touches _ _)).then (State.tally_touches _ _)

theorem State.boxCoin_touches (d : Nat) : s.Touches [.ciu, .jnu] (s.boxCoin d) :=
  (s.touch_ciu _).mono.then (State.tally_touches _ _)

theorem State.pulse_touches (n : TubeNo) : s.Touches [.chu, .drives] (s.pulse n) :=
  (s.touch_chu _).mono.then (State.drive_touches _ _)

theorem State.ejectNext_touches : s.Touches [.chu, .drives] s.ejectNext := by
  unfold State.ejectNext
  repeat' split
  all_goals first | exact .refl _ s | exact s.pulse_touches _

theorem State.dispatch_touches : s.Touches [.chu, .lki, .drives] s.dispatch := by
  unfold State.dispatch
  split
  · exact .refl _ s
  · dsimp only
    split
    · exact s.ejectNext_touches.mono
    · exact (((s.touch_chu _).mono.then (State.setRes_touches _ _ _)).then (State.evalLows_touches _)).then
        (State.ejectNext_touches _)

theorem State.countCoin_touches (o : Order) (os : List Order) (n : TubeNo) :
    s.Touches [.lanes, .chu, .jnu, .lki, .drives] (s.countCoin o os n) :=
  ((((((s.setCount_touches _ _).mono.then (State.setRes_touches _ _ _)).then (State.touch_chu _ _)).then
    (State.modSale_touches _ _ _)).then (State.evalLow_touches _ _)).then (State.tally_touches _ _)).then
    (State.ejectNext_touches _)

theorem State.reassure_touches (l : Lane) : s.Touches [.chu, .lki] (s.reassure l) := by
  unfold State.reassure
  repeat' split
  · exact (s.setRes_touches _ _).mono.then (State.clear_touches _ _)
  · exact (s.setRes_touches _ _).mono.then (State.declare_touches _ _)
  · exact (s.setRes_touches _ _).mono

theorem State.replan_touches (o : Order) (os : List Order) : s.Touches [.chu] (s.replan o os) :=
  ((s.setRes_touches _ _).then (State.touch_chu _ _)).then (State.setRes_touches _ _ _)

theorem State.writeOff_touches (o : Order) (os : List Order) (n : TubeNo) :
    s.Touches [.chu, .jnu, .lki, .drives] (s.writeOff o os n) := by
  unfold State.writeOff
  dsimp only
  refine State.Touches.then (State.Touches.then (fs := [.chu, .jnu, .lki, .drives]) ?_ (State.evalLows_touches _))
    (State.ejectNext_touches _)
  split
  · exact (((((s.touch_chu _).mono.then (State.setCount_touches _ _ _)).then (State.tally_touches _ _)).then
      (State.touch_chu _ _)).then (State.replan_touches _ _ _)).then (State.reassure_touches _ _)
  · exact ((((s.touch_chu _).mono.then (State.setCount_touches _ _ _)).then (State.tally_touches _ _)).then
      (State.touch_chu _ _)).then (State.replan_touches _ _ _)

theorem State.endDump_touches (d : Dump) : s.Touches [.chu, .jnu, .lki] (s.endDump d) :=
  ((s.touch_chu _).mono.then (State.notify_touches _ _)).then (State.storeOther_touches _ _)

theorem State.dumpCoin_touches (d : Dump) : s.Touches [.ciu, .chu, .jnu, .lki, .drives] (s.dumpCoin d) := by
  have h : s.Touches [.ciu, .chu, .jnu, .lki, .drives]
      (({ s with chu := { s.chu with wait := none } }.setCount d.tube ((s.tube d.tube).count - 1)).evalLow d.tube) :=
    ((s.touch_chu _).mono.then (State.setCount_touches _ _ _)).then (State.evalLow_touches _ _)
  unfold State.dumpCoin
  dsimp only
  repeat' split
  · exact (h.then (State.tally_touches _ _)).then (State.endDump_touches _ _)
  · exact ((h.then (State.boxCoin_touches _ _)).then (State.touch_chu _ _)).then (State.pulse_touches _ _)
  · exact (h.then (State.boxCoin_touches _ _)).then (State.endDump_touches _ _)

theorem State.dumpMissed_touches (d : Dump) : s.Touches [.chu, .jnu, .lki] (s.dumpMissed d) :=
  (((s.setCount_touches _ _).mono.then (State.tally_touches _ _)).then (State.evalLow_touches _ _)).then
    (State.endDump_touches _ _)

theorem State.dumpRemoval_touches : s.Touches [.chu, .jnu, .lki] s.dumpRemoval := by
  unfold State.dumpRemoval
  split
  · dsimp only
    split
    · exact (s.touch_chu _).mono
    · exact (s.touch_chu _).mono.then (State.endDump_touches _ _)
  · exact .refl _ s

/-! ## Recovery table and card session (R105, R109, R121 to R130, R154) -/

theorem State.setEntry_touches (n : Nat) (e : Option CrtEntry) : s.Touches [.crt] (s.setEntry n e) := s.touch_crt _
theorem State.setClaim_touches (l : Lane) (c : Option Serial) : s.Touches [.crt] (s.setClaim l c) := s.touch_crt _
theorem State.setCrtRes_touches (l : Lane) (b : Bool) : s.Touches [.crt] (s.setCrtRes l b) := s.touch_crt _

theorem State.detach_touches (n : Nat) : s.Touches [.crt] (s.detach n) := by
  unfold State.detach
  split
  · exact s.setEntry_touches _ _
  · exact .refl _ s

theorem State.abandon_touches (n : Nat) (e : CrtEntry) : s.Touches [.crt, .jnu, .lki] (s.abandon n e) :=
  ((s.store_touches _).mono.then (State.setEntry_touches _ _ _)).then (State.notify_touches _ _)

theorem State.expire_touches (due : CrtEntry → Bool) (n : Nat) : s.Touches [.crt, .jnu, .lki] (s.expire due n) := by
  unfold State.expire
  repeat' split
  all_goals first | exact .refl _ s | exact s.abandon_touches _ _ | exact (s.setEntry_touches _ _).mono

theorem State.expiryCheck_touches : s.Touches [.crt, .jnu, .lki] s.expiryCheck :=
  .foldl (fun t n => t.expire_touches _ n) _ s

theorem State.expiryRetry_touches : s.Touches [.crt, .jnu, .lki] s.expiryRetry :=
  .ite (fun _ => .foldl (fun t n => t.expire_touches _ n) _ s) fun _ => .refl _ s

theorem State.cardPlace_touches (l : Lane) (u : CardUse) (r : BusReq) :
    s.Touches [.cdu, .dbc, .drives] (s.cardPlace l u r) := by
  unfold State.cardPlace
  dsimp only
  split
  · exact (s.setSession_touches _ _).mono.then (State.place_touches _ _ _)
  · exact (s.setSession_touches _ _).mono

theorem State.dropExchange_touches (l : Lane) : s.Touches [.cdu, .dbc] (s.dropExchange l) := by
  unfold State.dropExchange
  dsimp only
  repeat' split
  all_goals first
    | exact (s.setSession_touches _ _).mono
    | exact (s.setSession_touches _ _).mono.then (State.withdraw_touches _ _)

theorem State.restoreNext_touches (l : Lane) : s.Touches [.cdu, .dbc, .drives] (s.restoreNext l) := by
  unfold State.restoreNext
  dsimp only
  split
  · exact (s.setSession_touches _ _).mono.then (State.place_touches _ _ _)
  · exact .refl _ s

theorem State.cut_touches (l : Lane) : s.Touches [.cdu, .crt, .dbc, .drives] (State.endPurpose.cut l s) :=
  (((s.dropExchange_touches l).mono.then (State.restoreNext_touches _ l)).then (State.setSession_touches _ _ _)).then
    (State.setClaim_touches _ _ _)

theorem State.endPurpose_touches (l : Lane) : s.Touches [.cdu, .crt, .dbc, .drives] (s.endPurpose l) := by
  unfold State.endPurpose
  dsimp only
  repeat' split
  all_goals first | exact (s.setSession_touches _ _).mono | exact s.cut_touches l

theorem State.setPurpose_touches (l : Lane) (p : Purpose) : s.Touches [.cdu] (s.setPurpose l p) :=
  .ite (fun _ => s.setSession_touches _ _) fun _ => s.setSession_touches _ _

theorem State.refreshScan_touches (l : Lane) : s.Touches [.cdu, .crt, .dbc, .drives] (s.refreshScan l) := by
  unfold State.refreshScan
  dsimp only
  repeat' split
  · exact (s.setPurpose_touches _ _).mono
  · exact .refl _ s
  · exact s.endPurpose_touches _
  · exact .refl _ s

theorem State.sendHalt_touches (l : Lane) : s.Touches [.cdu, .dbc, .drives] (s.sendHalt l) :=
  (s.cardPlace_touches l _ _).then (State.setSession_touches _ _ _)

theorem State.backToPolling_touches (l : Lane) : s.Touches [.cdu] (s.backToPolling l) := s.setSession_touches _ _

theorem State.credit_touches (e : CrtEntry) : s.Touches [.jnu] (s.credit e) :=
  .ite (fun _ => s.tally_touches _) fun _ => .refl _ s

theorem State.writeNext_touches (l : Lane) (w : WriteSeq) : s.Touches [.cdu, .dbc, .drives] (s.writeNext l w) := by
  unfold State.writeNext
  split
  · exact (s.setSession_touches _ _).mono.then (State.cardPlace_touches _ _ _ _)
  · exact (s.setSession_touches _ _).mono.then (State.cardPlace_touches _ _ _ _)

/-! ## The end of a sale (R20 to R25, R67 to R69, R88, R95) -/

/-- What the work of a sale may touch: the lanes and the blocks, but no table of settings, no clock and no part state. -/
abbrev Field.sale : List Field := [.lanes, .ciu, .chu, .cdu, .crt, .pru, .dbc, .jnu, .lki, .drives]

theorem State.enter_touches (l : Lane) (st : LaneState) : s.Touches [.lanes, .lki] (s.enter l st) := by
  unfold State.enter
  dsimp only
  split
  · exact .ite (fun _ => .ite (fun _ => (s.setLane_touches _ _).mono) fun _ =>
      (s.setLane_touches _ _).mono.then (State.notify_touches _ _)) fun _ => .refl _ s
  · exact .ite (fun _ => .refl _ s) fun _ => (s.setLane_touches _ _).mono

theorem State.startTimer_touches (l : Lane) (n : Nat) : s.Touches [.lanes] (s.startTimer l n) := s.setLane_touches _ _
theorem State.stopTimer_touches (l : Lane) : s.Touches [.lanes] (s.stopTimer l) := s.setLane_touches _ _

theorem State.closeSale_touches (l : Lane) (out : SaleOutcome) (why : Option CardRefusal) :
    s.Touches [.lanes, .chu, .cdu, .crt, .pru, .dbc, .jnu, .lki, .drives] (s.closeSale l out why) := by
  unfold State.closeSale
  split
  · exact .refl _ s
  · rename_i x _
    dsimp only
    have h2 : s.Touches [.lanes, .chu, .cdu, .crt, .pru, .dbc, .jnu, .lki, .drives]
        (((s.stopTimer l).releaseRes l).modSale l fun y => { y with journalRes := 1 }) :=
      ((s.stopTimer_touches l).mono.then (State.releaseRes_touches _ l)).then (State.modSale_touches _ _ _)
    have h3 : s.Touches [.lanes, .chu, .cdu, .crt, .pru, .dbc, .jnu, .lki, .drives]
        (if 0 < x.shortfall then (((s.stopTimer l).releaseRes l).modSale l fun y => { y with journalRes := 1 }).askNote
          l x out else ((s.stopTimer l).releaseRes l).modSale l fun y => { y with journalRes := 1 }) :=
      .ite (fun _ => h2.then (State.askNote_touches _ _ _ _)) fun _ => h2
    refine .ite (fun _ => State.Touches.then ?_ (State.askReceipt_touches _ _ _ _)) fun _ => ?_
    all_goals exact (((((((h3.then (State.setCrtRes_touches _ l false)).then (State.setTicketSlot_touches _ l false)).then
      (State.endPurpose_touches _ l)).then (State.setSession_touches _ _ _)).then (State.setLane_touches _ _ _)).then
      (State.store_touches _ _)).then (State.enter_touches _ l .idle)).then (State.notify_touches _ _)

theorem State.orderReport_touches (o : Order) :
    s.Touches [.lanes, .chu, .cdu, .crt, .pru, .dbc, .jnu, .lki, .drives] (s.orderReport o) := by
  unfold State.orderReport
  dsimp only
  split
  · exact (((s.tally_touches _).mono.then (State.notify_touches _ _)).then (State.modSale_touches _ _ _)).then
      (State.closeSale_touches _ _ _ _)
  · exact (s.tally_touches _).mono.then (State.notify_touches _ _)

theorem State.completeHead_touches :
    s.Touches [.lanes, .chu, .cdu, .crt, .pru, .dbc, .jnu, .lki, .drives] s.completeHead := by
  unfold State.completeHead
  repeat' split
  · exact ((s.touch_chu _).mono.then (State.dispatch_touches _)).then (State.orderReport_touches _ _)
  · exact .refl _ s
  · exact .refl _ s

theorem State.completeOrders_touches :
    s.Touches [.lanes, .chu, .cdu, .crt, .pru, .dbc, .jnu, .lki, .drives] s.completeOrders :=
  s.completeHead_touches.then (State.completeHead_touches _)

theorem State.placeOrder_touches (k : OrderKind) (l : Lane) (n a : Nat) :
    s.Touches [.lanes, .chu, .cdu, .crt, .pru, .dbc, .jnu, .lki, .drives] (s.placeOrder k l n a) := by
  unfold State.placeOrder
  dsimp only
  repeat' split
  · exact s.orderReport_touches _
  · exact ((s.touch_chu _).mono.then (State.dispatch_touches _)).then (State.completeOrders_touches _)
  · exact (s.touch_chu _).mono

theorem State.setTray_touches (l : Lane) (t : List TrayEntry) (o : TrayOp) : s.Touches [.ciu] (s.setTray l t o) :=
  s.setCoin_touches _ _

theorem State.released_touches (l : Lane) : s.Touches Field.sale (s.released l) := by
  unfold State.released
  dsimp only
  repeat' split
  · exact (((s.setCoin_touches _ _).mono.then (State.enter_touches _ _ _)).then (State.endPurpose_touches _ _)).then
      (State.placeOrder_touches _ _ _ _ _)
  · exact (s.setCoin_touches _ _).mono.then (State.closeSale_touches _ _ _ _)
  · exact (s.setCoin_touches _ _).mono

theorem State.release_touches (l : Lane) : s.Touches Field.sale (s.release l) :=
  .ite (fun _ => (s.setCoin_touches _ _).mono.then (State.released_touches _ _)) fun _ => (s.setCoin_touches _ _).mono

theorem State.arrive_touches (t : Target) (d : Nat) : s.Touches [.ciu, .chu, .jnu, .lki] (s.arrive t d) := by
  cases t
  · exact (s.tubeCoin_touches _ d).mono
  · exact (s.boxCoin_touches d).mono

theorem State.unpend_touches (t : Target) : s.Touches [.chu] (s.unpend t) := by
  cases t
  · exact s.pendDown_touches _
  · exact .refl _ s

theorem State.releaseEntry_touches (l : Lane) : s.Touches Field.sale (s.releaseEntry l) := by
  unfold State.releaseEntry
  split
  · exact .refl _ s
  · rename_i e rest _
    split
    · exact (s.setTray_touches _ _ _).mono.then (State.notify_touches _ _)
    · dsimp only
      have h := (((s.unpend_touches e.target).mono (gs := Field.sale)).then (State.arrive_touches _ ‹Target› e.denom)).then
        (State.drive_touches _ (.route l ‹Target›))
      split
      · exact (h.then (State.setCoin_touches _ _ _)).then (State.released_touches _ _)
      · exact h.then (State.setCoin_touches _ _ _)

theorem State.returned_touches (l : Lane) (n : Nat) : s.Touches Field.sale (s.returned l n) := by
  unfold State.returned
  dsimp only
  repeat' split
  · exact ((s.setTray_touches _ _ _).mono.then (State.modSale_touches _ _ _)).then (State.placeOrder_touches _ _ _ _ _)
  · exact ((s.setTray_touches _ _ _).mono.then (State.modSale_touches _ _ _)).then (State.closeSale_touches _ _ _ _)
  · exact (s.setTray_touches _ _ _).mono.then (State.modSale_touches _ _ _)

theorem State.returnTray_touches (l : Lane) : s.Touches Field.sale (s.returnTray l) :=
  ((State.Touches.foldl (fun t (e : TrayEntry) => t.unpend_touches e.target) _ s).mono.then (State.tally_touches _ _)).then
    (State.returned_touches _ _ _)

theorem State.askReturn_touches (l : Lane) : s.Touches Field.sale (s.askReturn l) :=
  .ite (fun _ => s.returned_touches l 0) fun _ => (s.setTray_touches _ _ _).mono.then (State.drive_touches _ _)

theorem State.refund_touches (l : Lane) (out : SaleOutcome) : s.Touches Field.sale (s.refund l out) :=
  (((((s.stopTimer_touches l).mono.then (State.modSale_touches _ _ _)).then (State.enter_touches _ _ _)).then
    (State.endPurpose_touches _ _)).then (State.releaseRes_touches _ _)).then (State.askReturn_touches _ _)

/-! ## Delivery (R10, R14, R16 to R19) -/

theorem State.ticketPrinted_touches (l : Lane) : s.Touches Field.sale (s.ticketPrinted l) :=
  .ite (fun _ => (s.modSale_touches _ _).mono.then (State.release_touches _ _)) fun _ => .refl _ s

theorem State.ticketFailed_touches (l : Lane) : s.Touches Field.sale (s.ticketFailed l) :=
  .ite (fun _ => s.refund_touches _ _) fun _ => .refl _ s

theorem State.deliver_touches (l : Lane) : s.Touches Field.sale (s.deliver l) := by
  have h := ((s.stopTimer_touches l).mono (gs := Field.sale)).then (State.enter_touches _ l .delivering)
  unfold State.deliver
  dsimp only
  repeat' split
  · exact (h.then (State.modSale_touches _ _ _)).then (State.queueTicket_touches _ _ _)
  · exact ((h.then (State.modSale_touches _ _ _)).then (State.queueTicket_touches _ _ _)).then
      (State.ticketFailed_touches _ _)
  · exact h.then (State.setPurpose_touches _ _ _)
  · exact h

theorem State.startPaying_touches (l : Lane) : s.Touches [.lanes, .lki] (s.startPaying l) :=
  (s.enter_touches _ _).then (State.startTimer_touches _ _ _)

theorem State.waitCard_touches (l : Lane) (k : WaitKind) : s.Touches [.lanes, .lki] (s.waitCard l k) :=
  .ite (fun _ => ((s.modSale_touches _ _).mono.then (State.enter_touches _ _ _)).then (State.startTimer_touches _ _ _))
    fun _ => .refl _ s

theorem State.cardAbsent_touches (l : Lane) : s.Touches [.lanes, .lki] (s.cardAbsent l) :=
  .ite (fun _ => s.waitCard_touches _ _) fun _ => .refl _ s

theorem State.cardFailed_touches (l : Lane) : s.Touches Field.sale (s.cardFailed l) :=
  .ite (fun _ => s.refund_touches _ _) fun _ => .refl _ s

theorem State.resume_touches (l : Lane) : s.Touches [.lanes, .lki] (s.resume l) :=
  (s.stopTimer_touches _).mono.then (State.enter_touches _ _ _)

theorem State.cardAnswered_touches (l : Lane) : s.Touches [.lanes, .lki] (s.cardAnswered l) := by
  unfold State.cardAnswered
  repeat' split
  · exact s.resume_touches _
  · exact .refl _ s
  · exact .refl _ s

theorem State.cardVerified_touches (l : Lane) : s.Touches Field.sale (s.cardVerified l) :=
  .ite (fun _ => ((s.modSale_touches _ _).mono.then (State.resume_touches _ _)).then (State.release_touches _ _))
    fun _ => .refl _ s

theorem State.cardConflict_touches (l : Lane) : s.Touches Field.sale (s.cardConflict l) :=
  .ite (fun _ => ((s.modSale_touches _ _).mono.then (State.resume_touches _ _)).then (State.release_touches _ _))
    fun _ => .refl _ s

theorem State.doubtExpired_touches (l : Lane) : s.Touches Field.sale (s.doubtExpired l) := by
  unfold State.doubtExpired
  split
  · dsimp only
    refine State.Touches.then (State.Touches.then (State.Touches.then (State.Touches.then (fs := Field.sale) ?_
      (State.modSale_touches _ _ _)) (State.resume_touches _ _)) (State.endPurpose_touches _ _)) (State.release_touches _ _)
    split
    · exact (s.detach_touches _).mono
    · exact .refl _ s
  · exact .refl _ s

theorem State.judgeCard_touches (l : Lane) (x : Sale) (img : CardImage) :
    s.Touches Field.sale (s.judgeCard l x img) := by
  have h := fun f => (s.modSale_touches l f).mono (gs := Field.sale)
  unfold State.judgeCard
  dsimp only
  repeat' split
  · exact (s.closeSale_touches _ _ _).mono
  · exact (h _).then (State.closeSale_touches _ _ _ _)
  · exact (h _).then (State.closeSale_touches _ _ _ _)
  · exact (h _).then (State.deliver_touches _ _)
  · exact ((h _).then (State.endPurpose_touches _ _)).then (State.startPaying_touches _ _)

theorem State.saleCard_touches (l : Lane) (img : CardImage) : s.Touches Field.sale (s.saleCard l img) := by
  unfold State.saleCard
  split
  · exact s.judgeCard_touches _ _ _
  · exact .refl _ s

theorem State.cardFaultOnSale_touches (l : Lane) (x : Sale) : s.Touches Field.sale (s.cardFaultOnSale l x) := by
  unfold State.cardFaultOnSale
  split
  · exact (s.closeSale_touches _ _ _).mono
  · exact .ite (fun _ => s.refund_touches _ _) fun _ => .refl _ s
  · split
    · dsimp only
      refine State.Touches.then (State.Touches.then (fs := Field.sale) ?_ (State.modSale_touches _ _ _))
        (State.refund_touches _ _ _)
      split
      · exact (s.setEntry_touches _ _).mono
      · exact .refl _ s
    · exact .refl _ s
  · exact .ite (fun _ => s.refund_touches _ _) fun _ => .refl _ s
  · exact .refl _ s

theorem State.stopRead_touches (l : Lane) : s.Touches [.cdu, .dbc, .drives] (s.stopRead l) :=
  .ite (fun _ => ((s.dropExchange_touches l).mono.then (State.restoreNext_touches _ l)).then
    (State.backToPolling_touches _ l)) fun _ => .refl _ s

theorem State.takeCardFault_touches (l : Lane) : s.Touches Field.sale (s.takeCardFault l) := by
  unfold State.takeCardFault
  dsimp only
  repeat' split
  · exact .refl _ s
  · exact ((s.setLane_touches _ _).mono.then (State.declare_touches _ _)).then (State.cardFaultOnSale_touches _ _ _)
  · exact ((s.setLane_touches _ _).mono.then (State.declare_touches _ _)).then (State.stopRead_touches _ _)

/-! ## Coin intake (R52 to R76) -/

theorem State.returnCoin_touches (l : Lane) (why : ReturnReason) (m : Option (Nat × AcceptFields)) :
    s.Touches [.jnu, .lki] (s.returnCoin l why m) := (s.tally_touches _).mono.then (State.notify_touches _ _)

theorem State.coinTaken_touches (l : Lane) (d : Nat) (c : Bool) : s.Touches Field.sale (s.coinTaken l d c) := by
  unfold State.coinTaken
  dsimp only
  split
  · exact .ite (fun _ => (s.modSale_touches _ _).mono.then (State.deliver_touches _ _)) fun _ =>
      (s.modSale_touches _ _).mono.then (State.startTimer_touches _ _ _)
  · exact (s.modSale_touches _ _).mono

theorem State.takeCoin_touches (l : Lane) (i d : Nat) (t : Target) : s.Touches Field.sale (s.takeCoin l i d t) := by
  unfold State.takeCoin
  dsimp only
  split
  · refine State.Touches.then (State.Touches.then (State.Touches.then (fs := Field.sale) ?_ (State.drive_touches _ _))
      (State.notify_touches _ _)) (State.coinTaken_touches _ _ _ _)
    split
    · exact ((s.tally_touches _).mono.then (State.setCoin_touches _ _ _)).then (State.pendUp_touches _ _)
    · exact (s.tally_touches _).mono.then (State.setCoin_touches _ _ _)
  · exact ((((s.tally_touches _).mono.then (State.arrive_touches _ _ _)).then (State.drive_touches _ _)).then
      (State.notify_touches _ _)).then (State.coinTaken_touches _ _ _ _)

theorem State.mayTake_touches (l : Lane) (d : Nat) : s.Touches [.chu, .lki] (s.mayTake l d).1 := by
  unfold State.mayTake
  dsimp only
  repeat' split
  · exact .refl _ s
  · exact s.assure_touches _ _
  · exact .refl _ s

theorem State.classify_touches (l : Lane) (c : CoinRec) : s.Touches Field.sale (s.classify l c) := by
  unfold State.classify
  dsimp only
  repeat' split
  · exact (s.returnCoin_touches _ _ _).mono
  · exact (s.returnCoin_touches _ _ _).mono
  · exact (s.returnCoin_touches _ _ _).mono
  · exact (s.returnCoin_touches _ _ _).mono
  · exact (s.mayTake_touches _ _).mono.then (State.takeCoin_touches _ _ _ _ _)
  · exact (s.mayTake_touches _ _).mono.then (State.returnCoin_touches _ _ _ _)

theorem State.auditCoin_touches (l : Lane) (c : CoinRec) : s.Touches [.lki] (s.auditCoin l c) := by
  unfold State.auditCoin
  dsimp only
  repeat' split
  all_goals exact s.notify_touches _

theorem State.coinRecord_touches (l : Lane) (c : CoinRec) : s.Touches Field.sale (s.coinRecord l c) := by
  unfold State.coinRecord
  repeat' split
  · exact (s.auditCoin_touches _ _).mono
  · exact (s.returnCoin_touches _ _ _).mono
  · exact s.classify_touches _ _

theorem State.signOfLife_touches (l : Lane) : s.Touches [.ciu, .lki] (s.signOfLife l) :=
  .ite (fun _ => (s.setCoin_touches _ _).mono.then (State.clear_touches _ _)) fun _ => .refl _ s

theorem State.linkLost_touches (l : Lane) : s.Touches [.lanes, .ciu, .lki] (s.linkLost l) :=
  .ite (fun _ => ((s.setCoin_touches _ _).mono.then (State.declare_touches _ _)).then (State.setLane_touches _ _ _))
    fun _ => .refl _ s

theorem State.pathFlag_touches (l : Lane) (b : Bool) : s.Touches [.ciu] (s.pathFlag l b) :=
  .ite (fun _ => s.setCoin_touches _ _) fun _ => .refl _ s

theorem State.jamBegins_touches (l : Lane) : s.Touches [.ciu, .lki] (s.jamBegins l) :=
  .ite (fun _ => (s.setCoin_touches _ _).mono.then (State.declare_touches _ _)) fun _ => .refl _ s

theorem State.jamEnds_touches (l : Lane) : s.Touches [.ciu, .lki] (s.jamEnds l) :=
  .ite (fun _ => (s.setCoin_touches _ _).mono.then (State.clear_touches _ _)) fun _ => .refl _ s

theorem State.emptyBox_touches (b : Bool) : s.Touches [.ciu, .jnu, .lki] (s.emptyBox b) :=
  (s.storeOther_touches _).mono.then (State.touch_ciu _ _)

theorem State.boxRemoved_touches : s.Touches [.ciu, .chu, .jnu, .lki] s.boxRemoved :=
  .ite (fun _ => (((s.emptyBox_touches _).mono.then (State.touch_ciu _ _)).then (State.declare_touches _ _)).then
    (State.dumpRemoval_touches _)) fun _ => .refl _ s

theorem State.resumeRelease_touches (l : Lane) : s.Touches [.ciu, .lki] (s.resumeRelease l) :=
  .ite (fun _ => (s.setCoin_touches _ _).mono.then (State.notify_touches _ _)) fun _ => .refl _ s

theorem State.boxReplaced_touches : s.Touches [.ciu, .lki] s.boxReplaced :=
  .ite (fun _ => .refl _ s) fun _ => ((s.touch_ciu _).mono.then (State.clear_touches _ _)).then
    (.forLanes State.resumeRelease_touches _)

/-! ## The card session at work (R27, R106 to R120, R126 to R129) -/

theorem State.enquiryDone_touches (l : Lane) (r : Option CardReport) : s.Touches Field.sale (s.enquiryDone l r) :=
  (((s.notify_touches _).mono.then (State.stopTimer_touches _ _)).then (State.enter_touches _ _ _)).then
    (State.endPurpose_touches _ _)

theorem State.startRead_touches (l : Lane) (x : Serial) (bs : List Block) (p : Option Lane) :
    s.Touches [.cdu, .dbc, .drives] (s.startRead l x bs p) :=
  (s.setSession_touches _ _).mono.then (State.cardPlace_touches _ _ _ _)

theorem State.takeUp_touches (l : Lane) (x : Serial) (n : Nat) : s.Touches Field.sale (s.takeUp l x n) := by
  unfold State.takeUp
  split
  · dsimp only
    refine State.Touches.then (fs := Field.sale) ?_ (State.startRead_touches _ _ _ _ _)
    exact .ite (fun _ => (s.setSession_touches _ _).mono.then (State.setClaim_touches _ _ _)) fun _ =>
      ((s.setSession_touches _ _).mono.then (State.setClaim_touches _ _ _)).then (State.enter_touches _ _ _)
  · split
    · exact .ite (fun _ => .refl _ s) fun _ => (s.setEntry_touches _ _).mono.then (State.notify_touches _ _)
    · exact .refl _ s

theorem State.cardWrite_touches (l : Lane) (n : Option Nat) (x : Serial) (r : WriteResult) (c : Option WriteCause)
    (i : Nat) (e : Option Nat) : s.Touches [.lki] (s.cardWrite l n x r c i e) := s.notify_touches _

theorem State.cardChanged_touches (l : Lane) (x : Serial) : s.Touches Field.sale (s.cardChanged l x) :=
  (((s.setClaim_touches _ _).mono.then (State.cardWrite_touches _ _ _ _ _ _ _ _)).then
    (State.cardFailed_touches _ _)).then (State.sendHalt_touches _ _)

theorem State.polledDelivery_touches (l : Lane) (x : Serial) : s.Touches Field.sale (s.polledDelivery l x) := by
  unfold State.polledDelivery
  repeat' split
  · exact .refl _ s
  · exact (s.notify_touches _).mono.then (State.cardAbsent_touches _ _)
  · exact ((s.cardAnswered_touches _).mono.then (State.setClaim_touches _ _ _)).then (State.startRead_touches _ _ _ _ _)
  · exact s.cardChanged_touches _ _
  · exact (s.setSession_touches _ _).mono.then (State.startRead_touches _ _ _ _ _)
  · exact .refl _ s
  · exact (s.cardAbsent_touches _).mono

theorem State.polled_touches (l : Lane) (x : Serial) : s.Touches Field.sale (s.polled l x) := by
  unfold State.polled
  repeat' split
  all_goals first
    | exact .refl _ s
    | exact (s.startRead_touches _ _ _ _).mono
    | exact s.takeUp_touches _ _ _
    | exact s.polledDelivery_touches _ _

theorem State.pollMissed_touches (l : Lane) : s.Touches [.lanes, .lki] (s.pollMissed l) :=
  .ite (fun _ => s.cardAbsent_touches _) fun _ => .refl _ s

theorem State.saleRead_touches (l : Lane) (x : Serial) (bs : List Block) : s.Touches Field.sale (s.saleRead l x bs) :=
  (s.setSession_touches _ _).mono.then (State.saleCard_touches _ _ _)

theorem State.afterResolution_touches (l : Lane) (r : Resolution) (x : Serial) (bs : Option (List Block)) :
    s.Touches Field.sale (s.afterResolution l r x bs) := by
  unfold State.afterResolution
  dsimp only
  repeat' split
  · exact (s.setSession_touches _ _).mono
  · exact (s.setSession_touches _ _).mono.then (State.setPurpose_touches _ _ _)
  · exact s.saleRead_touches _ _ _
  · exact .refl _ s
  · exact s.enquiryDone_touches _ _
  · exact (s.enter_touches _ _).mono
  · exact s.enquiryDone_touches _ _
  · exact (s.enter_touches _ _).mono.then (State.refreshScan_touches _ _)
  · exact .refl _ s

theorem State.finishDetached_touches (l : Lane) (r : Resolution) (e : CrtEntry) (v : Verdict)
    (c : Option ConflictCause) (k : Option Nat) (bs : List Block) :
    s.Touches Field.sale (s.finishDetached l r e v c k bs) :=
  ((((((s.setEntry_touches _ _).mono.then (State.setSession_touches _ _ _)).then (State.store_touches _ _)).then
    (State.notify_touches _ _)).then (State.setClaim_touches _ _ _)).then
    (State.afterResolution_touches _ _ _ _ _)).then (State.sendHalt_touches _ _)

theorem State.dropDetached_touches (l : Lane) (r : Resolution) (x : Serial) :
    s.Touches Field.sale (s.dropDetached l r x) :=
  (((s.setSession_touches _ _).mono.then (State.setClaim_touches _ _ _)).then (State.backToPolling_touches _ _)).then
    (State.afterResolution_touches _ _ _ _ _)

theorem State.reapply_touches (l : Lane) (r : Resolution) (e : CrtEntry) (bs : List Block) :
    s.Touches [.cdu, .dbc, .drives] (s.reapply l r e bs) := by
  unfold State.reapply
  split
  · exact (s.setSession_touches _ _).mono.then (State.writeNext_touches _ _ _)
  · exact .refl _ s

theorem State.judgeAttached_touches (l : Lane) (r : Resolution) (e : CrtEntry) (bs : List Block) :
    s.Touches Field.sale (s.judgeAttached l r e bs) := by
  unfold State.judgeAttached
  split
  · exact (s.reapply_touches _ _ _ _).mono
  · exact (((((s.setEntry_touches _ _).mono.then (State.setSession_touches _ _ _)).then (State.credit_touches _ _)).then
      (State.notify_touches _ _)).then (State.cardVerified_touches _ _)).then (State.sendHalt_touches _ _)
  · exact ((((s.setEntry_touches _ _).mono.then (State.setSession_touches _ _ _)).then (State.notify_touches _ _)).then
      (State.cardConflict_touches _ _)).then (State.sendHalt_touches _ _)

theorem State.judgeDetached_touches (l : Lane) (r : Resolution) (e : CrtEntry) (bs : List Block) :
    s.Touches Field.sale (s.judgeDetached l r e bs) := by
  unfold State.judgeDetached
  dsimp only
  split
  · exact (s.reapply_touches _ _ _ _).mono
  · exact (s.credit_touches _).mono.then (State.finishDetached_touches _ _ _ _ _ _ _ _)
  · exact s.finishDetached_touches _ _ _ _ _ _ _

theorem State.startWrite_touches (l : Lane) (x : Sale) (y : Serial) (bs : List Block) :
    s.Touches Field.sale (s.startWrite l x y bs) := by
  unfold State.startWrite
  split
  · exact ((((s.setEntry_touches _ _).mono.then (State.setCrtRes_touches _ _ _)).then
      (State.setClaim_touches _ _ _)).then (State.modSale_touches _ _ _)).then (State.writeNext_touches _ _ _)
  · exact ((s.setClaim_touches _ _).mono.then (State.backToPolling_touches _ _)).then (State.cardAbsent_touches _ _)

theorem State.compareRead_touches (l : Lane) (x : Serial) (bs : List Block) :
    s.Touches Field.sale (s.compareRead l x bs) := by
  unfold State.compareRead
  split
  · exact .ite (fun _ => s.startWrite_touches _ _ _ _) fun _ => s.cardChanged_touches _ _
  · exact .refl _ s

theorem State.readComplete_touches (l : Lane) (x : Serial) : s.Touches [.lanes, .cdu] (s.readComplete l x) :=
  .ite (fun _ => (s.setSession_touches _ _).mono.then (State.modSale_touches _ _ _)) fun _ =>
    (s.setSession_touches _ _).mono

theorem State.readUse_touches (l : Lane) (x : Serial) (bs : List Block) : s.Touches Field.sale (s.readUse l x bs) := by
  unfold State.readUse
  dsimp only
  repeat' split
  · exact s.judgeDetached_touches _ _ _ _
  · exact s.judgeAttached_touches _ _ _ _
  · exact .refl _ s
  · exact (s.saleRead_touches _ _ _).then (State.sendHalt_touches _ _)
  · exact (s.enquiryDone_touches _ _).then (State.sendHalt_touches _ _)
  · exact s.compareRead_touches _ _ _
  · exact .refl _ s

theorem State.readDone_touches (l : Lane) (x : Serial) (bs : List Block) : s.Touches Field.sale (s.readDone l x bs) :=
  (s.readComplete_touches _ _).mono.then (State.readUse_touches _ _ _ _)

theorem State.readFailed_touches (l : Lane) (x : Serial) : s.Touches Field.sale (s.readFailed l x) := by
  unfold State.readFailed
  dsimp only
  repeat' split
  · exact s.dropDetached_touches _ _ _
  · exact (s.setSession_touches _ _).mono.then (State.backToPolling_touches _ _)
  · exact ((s.setClaim_touches _ _).mono.then (State.backToPolling_touches _ _)).then (State.cardAbsent_touches _ _)
  · exact (s.backToPolling_touches _).mono

theorem State.blockRead_touches (l : Lane) (b : Block) : s.Touches Field.sale (s.blockRead l b) := by
  unfold State.blockRead
  dsimp only
  repeat' split
  · exact .refl _ s
  · exact s.readFailed_touches _ _
  · exact (s.setSession_touches _ _).mono.then (State.cardPlace_touches _ _ _ _)
  · exact (s.setSession_touches _ _).mono.then (State.readDone_touches _ _ _ _)

theorem State.sequenceVerified_touches (l : Lane) (w : WriteSeq) : s.Touches Field.sale (s.sequenceVerified l w) := by
  unfold State.sequenceVerified
  dsimp only
  split
  · repeat' split
    · exact ((((s.cardWrite_touches _ _ _ _ _ _ _).mono.then (State.setEntry_touches _ _ _)).then
        (State.credit_touches _ _)).then (State.cardVerified_touches _ _)).then (State.sendHalt_touches _ _)
    · exact .refl _ s
    · exact .refl _ s
  · split
    · exact .refl _ s
    · have h := fun n => ((s.cardWrite_touches l n (s.session l).inHand .verified none w.issued none).mono
        (gs := Field.sale)).then (State.credit_touches _ ‹CrtEntry›)
      exact .ite (fun _ => (h _).then (State.finishDetached_touches _ _ _ _ _ _ _ _)) fun _ =>
        (((((h _).then (State.setEntry_touches _ _ _)).then (State.setSession_touches _ _ _)).then
          (State.notify_touches _ _)).then (State.cardVerified_touches _ _)).then (State.sendHalt_touches _ _)

theorem State.sequenceDoubt_touches (l : Lane) (w : WriteSeq) (c : WriteCause) :
    s.Touches Field.sale (s.sequenceDoubt l w c) := by
  unfold State.sequenceDoubt
  dsimp only
  split
  · exact ((s.cardWrite_touches _ _ _ _ _ _ _).mono.then (State.backToPolling_touches _ _)).then
      (State.waitCard_touches _ _ _)
  · refine .ite (fun _ => State.Touches.then ?_ (State.dropDetached_touches _ _ _ _)) fun _ =>
      ((((s.cardWrite_touches _ _ _ _ _ _ _).mono.then (State.notify_touches _ _)).then
        (State.setSession_touches _ _ _)).then (State.backToPolling_touches _ _)).then (State.waitCard_touches _ _ _)
    split
    · exact ((s.cardWrite_touches _ _ _ _ _ _ _).mono.then (State.notify_touches _ _)).then
        (State.setEntry_touches _ _ _)
    · exact (s.cardWrite_touches _ _ _ _ _ _ _).mono.then (State.notify_touches _ _)

theorem State.writeEnded_touches (l : Lane) (w : WriteSeq) (o : ExOutcome) : s.Touches Field.sale (s.writeEnded l w o) := by
  unfold State.writeEnded
  split
  · exact (s.writeNext_touches _ _).mono
  · exact s.sequenceDoubt_touches _ _ _

theorem State.readBackEnded_touches (l : Lane) (w : WriteSeq) (o : ExOutcome) :
    s.Touches Field.sale (s.readBackEnded l w o) := by
  unfold State.readBackEnded
  split
  · exact .ite (fun _ => s.sequenceVerified_touches _ _) fun _ => s.sequenceDoubt_touches _ _ _
  · exact s.sequenceDoubt_touches _ _ _

/-- What the work of a card result, a bus result or a LANE_RESTORE check may touch. -/
abbrev Field.work : List Field := .restore :: Field.sale

theorem State.restoreReply_touches (a b : Bool) : s.Touches [.lki] (s.restoreReply a b) :=
  .ite (fun _ => s.reply_touches _ _) fun _ => s.reply_touches _ _

theorem State.restoreEnded_touches (o : ExOutcome) : s.Touches [.lanes, .restore, .lki] (s.restoreEnded o) := by
  unfold State.restoreEnded
  split
  · exact .refl _ s
  · exact .ite (fun _ => (s.touch_restore _).mono.then (State.restoreReply_touches _ _ _)) fun _ =>
      (((s.touch_restore _).mono.then (State.setLane_touches _ _ _)).then (State.clear_touches _ _)).then
        (State.restoreReply_touches _ _ _)

theorem State.placeBehind_touches (l : Lane) : s.Touches [.cdu, .dbc, .drives] (s.placeBehind l) := by
  unfold State.placeBehind
  split
  · exact (s.setSession_touches _ _).mono.then (State.cardPlace_touches _ _ _ _)
  · exact .refl _ s

theorem State.halted_touches (l : Lane) : s.Touches Field.sale (s.halted l) :=
  .ite (fun _ => (s.endPurpose_touches _).mono) fun _ => (s.setSession_touches _ _).mono

theorem State.cardUse_touches (l : Lane) (u : CardUse) (o : ExOutcome) : s.Touches Field.sale (s.cardUse l u o) := by
  unfold State.cardUse
  dsimp only
  split
  · split
    · exact s.polled_touches _ _
    · exact (s.pollMissed_touches _).mono
  · split
    · exact s.blockRead_touches _ _
    · exact s.readFailed_touches _ _
  · split
    · exact s.writeEnded_touches _ _ _
    · exact .refl _ s
  · split
    · exact s.readBackEnded_touches _ _ _
    · exact .refl _ s
  · exact s.halted_touches _
  · exact .refl _ s

theorem State.cardResult_touches (l : Lane) (o : ExOutcome) : s.Touches Field.work (s.cardResult l o) := by
  unfold State.cardResult
  dsimp only
  split
  · exact .refl _ s
  · exact ((s.setSession_touches _ _).mono.then (State.placeBehind_touches _ _)).then (State.restoreEnded_touches _ _)
  · exact .ite (fun _ => (s.setSession_touches _ _).mono.then (State.restoreNext_touches _ _)) fun _ =>
      ((s.setSession_touches _ _).mono.then (State.restoreNext_touches _ _)).then (State.cardUse_touches _ _ _ _)

theorem State.pollDue_touches (l : Lane) : s.Touches [.cdu, .dbc, .drives] (s.pollDue l) :=
  .ite (fun _ => s.cardPlace_touches _ _ _) fun _ => .refl _ s

/-! ## Results of an exchange, and the payout sensor (R90, R91, R138 to R142, R159) -/

theorem State.latest_touches (p : Paper) (c : Cover) : s.Touches [.pru, .lki] (s.latest p c) :=
  (s.touch_pru _).mono.then (State.evalPaperLow_touches _)

theorem State.ticketOutcome_touches (j : Job) (b : Bool) : s.Touches Field.sale (s.ticketOutcome j b) := by
  unfold State.ticketOutcome
  split
  · exact .ite (fun _ => s.ticketPrinted_touches _) fun _ => s.ticketFailed_touches _
  · exact .refl _ s

theorem State.jobFailed_touches (j : Job) : s.Touches [.pru, .lki] (s.jobFailed j) :=
  .ite (fun _ => s.requeueNote_touches _) fun _ => s.endJob_touches _ _

theorem State.jobPrinted_touches (j : Job) : s.Touches [.pru, .jnu, .lki] (s.jobPrinted j) :=
  .ite (fun _ => (s.endJob_touches _ _).mono.then (State.notePrinted_touches _ _)) fun _ => (s.endJob_touches _ _).mono

theorem State.printerFault_touches : s.Touches Field.sale s.printerFault := by
  unfold State.printerFault
  dsimp only
  split
  · exact .ite (fun _ => ((s.setPrinter_touches _).mono.then (State.jobPrinted_touches _ _)).then
      (State.ticketOutcome_touches _ _ _)) fun _ => ((s.setPrinter_touches _).mono.then
      (State.jobFailed_touches _ _)).then (State.ticketOutcome_touches _ _ _)
  · exact (s.setPrinter_touches _).mono

theorem State.lineAnswered_touches (j : Job) (p : Paper) (c : Cover) : s.Touches Field.sale (s.lineAnswered j p c) :=
  .ite (fun _ => ((s.touch_pru _).mono.then (State.latest_touches _ _ _)).then (State.printNext_touches _)) fun _ =>
    (((s.latest_touches _ _).mono.then (State.jobFailed_touches _ _)).then (State.setPrinter_touches _ _)).then
      (State.ticketOutcome_touches _ _ _)

theorem State.cutAnswered_touches (j : Job) (p : Paper) (c : Cover) : s.Touches Field.sale (s.cutAnswered j p c) :=
  ((((s.latest_touches _ _).mono.then (State.jobPrinted_touches _ _)).then (State.setPrinter_touches _ _)).then
    (State.printStart_touches _)).then (State.ticketOutcome_touches _ _ _)

theorem State.statusAnswered_touches (p : Paper) (c : Cover) :
    s.Touches [.pru, .lki, .dbc, .drives] (s.statusAnswered p c) :=
  .ite (fun _ => ((s.latest_touches _ _).mono.then (State.setPrinter_touches _ _)).then (State.printStart_touches _))
    fun _ => (s.latest_touches _ _).mono

theorem State.printResult_touches (o : ExOutcome) (b : Bool) : s.Touches Field.sale (s.printResult o b) := by
  have h := (s.touch_pru { s.pru with use := none }).mono (gs := Field.sale)
  unfold State.printResult
  dsimp only
  refine .ite (fun _ => h) fun _ => State.Touches.then ?_ (State.printNext_touches _)
  split
  · exact h.then (State.statusAnswered_touches _ _ _)
  · split
    · exact h.then (State.lineAnswered_touches _ _ _ _)
    · exact h
  · split
    · exact h.then (State.cutAnswered_touches _ _ _ _)
    · exact h
  · exact .ite (fun _ => h.then (State.printerFault_touches _)) fun _ => h

theorem State.holdExpired_touches : s.Touches Field.sale s.holdExpired :=
  .ite (fun _ => (s.touch_pru _).mono.then (.foldl (fun t j => (t.endJob_touches j .failed).mono.then
    (State.ticketOutcome_touches _ _ _)) _ _) (List.Subset.refl _)) fun _ => .refl _ s

theorem State.statusDue_touches : s.Touches [.pru, .dbc, .drives] s.statusDue :=
  .ite (fun _ => s.wantStatus_touches) fun _ => .refl _ s

theorem State.hand_touches (d : Dev) (o : ExOutcome) (b : Bool) : s.Touches Field.work (s.hand d o b) := by
  cases d
  · exact s.cardResult_touches _ _
  · exact s.cardResult_touches _ _
  · exact (s.printResult_touches _ _).mono

theorem State.reportFault_touches (d : Dev) (b : Bool) : s.Touches Field.sale (s.reportFault d b) := by
  unfold State.reportFault
  repeat' split
  all_goals first | exact .refl _ s | exact s.takeCardFault_touches _

theorem State.busEnd_touches (e : Exchange) (o : ExOutcome) : s.Touches Field.work (s.busEnd e o) :=
  (((s.endExchange_touches _ _).mono.then (State.hand_touches _ _ _ _)).then (State.reportFault_touches _ _ _)).then
    (State.grantNext_touches _)

theorem State.busDeadline_touches : s.Touches Field.work s.busDeadline := by
  unfold State.busDeadline
  repeat' split
  all_goals first | exact .refl _ s | exact s.busEnd_touches _ _

theorem State.busResponse_touches (bs : List Byte) : s.Touches Field.work (s.busResponse bs) := by
  unfold State.busResponse
  repeat' split
  all_goals first | exact .refl _ s | exact s.busEnd_touches _ _

theorem State.confirm_touches : s.Touches Field.sale s.confirm := by
  unfold State.confirm
  repeat' split
  · exact .refl _ s
  · exact (s.dumpCoin_touches _).mono
  · exact (s.countCoin_touches _ _ _).mono.then (State.completeOrders_touches _)
  · exact (s.touch_chu _).mono

theorem State.waitEnds_touches : s.Touches Field.sale s.waitEnds := by
  have h : ∀ w : PayWait, s.Touches Field.sale (State.waitEnds.retry s w) := fun w => by
    unfold State.waitEnds.retry
    exact (s.touch_chu _).mono.then (State.drive_touches _ _)
  unfold State.waitEnds
  repeat' split
  · exact .refl _ s
  · exact (s.dumpMissed_touches _).mono
  · exact (s.endDump_touches _).mono
  · exact h _
  · exact (s.writeOff_touches _ _ _).mono.then (State.completeOrders_touches _)
  · exact (s.touch_chu _).mono
  · exact h _

/-! ## Start-up, the part and the clock (R185 to R197) -/

theorem State.startPaperLow_touches : s.Touches [.pru, .lki] s.startPaperLow :=
  .ite (fun _ => s.setPaperLow_touches _) fun _ => .refl _ s

theorem State.startBox_touches : s.Touches [.ciu, .jnu, .lki] s.startBox :=
  .ite (fun _ => .refl _ s) fun _ => .ite (fun _ => (s.declare_touches _).mono) fun _ =>
    (s.declare_touches _).mono.then (State.emptyBox_touches _ _)

theorem State.startNotes_touches : s.Touches [.pru, .jnu, .lki] s.startNotes :=
  .foldl (fun t n => t.settleNote_touches n false none) _ s

theorem State.startBlocks_touches : s.Touches [.ciu, .chu, .pru, .dbc, .jnu, .lki, .drives] s.startBlocks :=
  ((((s.startLows_touches.mono.then (State.startPaperLow_touches _)).then (State.declare_touches _ _)).then
    (State.startNotes_touches _)).then (State.startBox_touches _)).then (State.wantStatus_touches _)

theorem State.closeSnapshot_touches (l : Lane) : s.Touches Field.sale (s.closeSnapshot l) := by
  unfold State.closeSnapshot
  split
  · exact .refl _ s
  · dsimp only
    split
    · refine State.Touches.then ?_ (State.release_touches _ _)
      have h1 : ∀ {t : State}, s.Touches Field.sale t → s.Touches Field.sale (t.enter l .delivering) :=
        fun h => h.then (State.enter_touches _ _ _)
      have h2 := fun n => ((s.detach_touches n).mono (gs := Field.sale)).then (State.modSale_touches _ l
        fun y => { y with bound := y.bound || y.entryAttached, entryAttached := false })
      have h3 := (s.modSale_touches l
        fun y => { y with bound := y.bound || y.entryAttached, entryAttached := false }).mono (gs := Field.sale)
      refine .ite (fun _ => ?_) fun _ => h1 ?_
      all_goals
        split
        · exact h2 _
        · exact h3
    · exact .ite (fun _ => (s.closeSale_touches _ _ _).mono) fun _ =>
        ((s.modSale_touches _ _).mono.then (State.enter_touches _ _ _)).then (State.askReturn_touches _ _)

/-- What start-up after a RESET may touch. -/
abbrev Field.restart : List Field := [.part, .warnHeld, .warned, .start, .resetPending] ++ Field.work

theorem State.restart_touches (c : StartCause) (b : BadSections) (x : Bool) :
    s.Touches Field.restart (s.restart c b x) := by
  intro f hf
  cases f <;> first | rfl | exact absurd (by decide) hf

theorem State.startUp_touches (c : StartCause) (b : BadSections) (x : Bool) :
    s.Touches Field.restart (s.startUp c b x) := by
  unfold State.startUp
  dsimp only
  refine State.Touches.then (State.Touches.then (fs := Field.restart) ?_ (State.startBlocks_touches _))
    (.forLanes State.closeSnapshot_touches _)
  exact .ite (fun _ => ((s.restart_touches _ _ _).then (State.drive_touches _ _)).then (State.drive_touches _ _))
    fun _ => s.restart_touches _ _ _

theorem State.resetNow_touches : s.Touches Field.restart s.resetNow := by
  unfold State.resetNow
  dsimp only
  refine State.Touches.then ?_ (State.startUp_touches _ _ _ _)
  split
  · exact (s.drive_touches _).mono
  · exact .refl _ s

theorem State.interrupt_touches (l : Lane) : s.Touches Field.sale (s.interrupt l) := by
  unfold State.interrupt
  split
  · exact (s.closeSale_touches _ _ _).mono
  · exact .ite (fun _ => (s.closeSale_touches _ _ _).mono) fun _ => s.refund_touches _ _
  · exact .refl _ s

theorem State.warn_touches : s.Touches ([.part, .warned] ++ Field.sale) s.warn := by
  have h : s.Touches [.part, .warned] { s with part := .shuttingDown, warned := true } := by
    intro f hf
    cases f <;> first | rfl | exact absurd (by decide) hf
  exact (h.mono.then (.forLanes State.interrupt_touches _)).then (State.endQueued_touches _ _ _)

theorem State.powerWarning_touches : s.Touches ([.part, .warnHeld, .warned] ++ Field.sale) s.powerWarning := by
  unfold State.powerWarning
  split
  · intro f hf
    cases f <;> first | rfl | exact absurd (by decide) hf
  · exact .refl _ s
  · exact s.warn_touches.mono

theorem State.powerRecord_touches : s.Touches [.jnu, .lki] s.powerRecord :=
  .ite (fun _ => s.storeOther_touches _) fun _ => .refl _ s

theorem State.idleLane_touches (l : Lane) : s.Touches [.lanes] (s.idleLane l) := s.setLane_touches _ _

theorem State.leaveStarting_touches : s.Touches [.jnu, .lki] s.leaveStarting :=
  .ite (fun _ => (s.touch_jnu _).mono.then (State.notify_touches _ _)) fun _ => (s.touch_jnu _).mono

theorem State.auditsOff_touches : s.Touches [.ciu] s.auditsOff := .forLanes (fun t l => t.setCoin_touches l _) s

theorem State.clearFlags_touches : s.Touches [.crt] s.clearFlags := s.touch_crt _

theorem State.enterService_touches : s.Touches [.part, .ciu, .crt, .pru, .lki] s.enterService :=
  (((s.touch_part _).mono.then (State.auditsOff_touches _)).then (State.clearFlags_touches _)).then
    (State.endQueued_touches _ _ _)

theorem State.applyWatermark_touches : s.Touches [.jnu, .lki] s.applyWatermark :=
  .ite (fun _ => (s.touch_jnu _).mono.then (State.notify_touches _ _)) fun _ => (s.touch_jnu _).mono

theorem State.leaveService_touches : s.Touches [.part, .tablesCleared, .chu, .pru, .jnu, .lki] s.leaveService := by
  have h : s.Touches [.part, .tablesCleared] { s with part := .inUse, tablesCleared := false } := by
    intro f hf
    cases f <;> first | rfl | exact absurd (by decide) hf
  exact ((h.mono.then (State.startLows_touches _)).then (State.evalPaperLow_touches _)).then
    (State.applyWatermark_touches _)

theorem State.quietSession_touches (l : Lane) : s.Touches [.cdu, .crt, .dbc, .drives] (s.quietSession l) := by
  unfold State.quietSession
  dsimp only
  refine State.Touches.then ?_ (State.endPurpose_touches _ _)
  exact .ite (fun _ => (s.setSession_touches _ _).mono.then (State.withdraw_touches _ _)) fun _ =>
    (s.setSession_touches _ _).mono

theorem State.quietPrinter_touches : s.Touches [.pru, .dbc] s.quietPrinter :=
  .ite (fun _ => ((s.touch_pru _).mono.then (State.touch_pru _ _)).then (State.withdraw_touches _ _)) fun _ =>
    (s.touch_pru _).mono

theorem State.dropNotes_touches : s.Touches [.pru, .jnu, .lki] s.dropNotes := by
  refine .foldl (fun t j => ?_) _ s
  dsimp only
  split
  · exact (t.touch_pru _).mono.then (State.settleNote_touches _ _ _ _)
  · exact (t.touch_pru _).mono

theorem State.quiesce_touches : s.Touches (.part :: Field.sale) s.quiesce := by
  have h : s.Touches [.part, .jnu] { s with part := .quiesced, jnu := { s.jnu with retry := none } } := by
    intro f hf
    cases f <;> first | rfl | exact absurd (by decide) hf
  refine .ite (fun _ => ?_) fun _ => .refl _ s
  exact ((((((h.mono.then (State.auditsOff_touches _)).then (State.clearFlags_touches _)).then
    (State.dropNotes_touches _)).then (State.endQueued_touches _ _ _)).then
    (.forLanes State.quietSession_touches _)).then (State.quietPrinter_touches _)).then (State.notify_touches _ _)

theorem State.wrapDay_touches : s.Touches [.clk, .crt, .jnu, .lki] s.wrapDay :=
  .ite (fun _ => (s.touch_clk _).mono.then (State.expiryCheck_touches _)) fun _ => (s.touch_clk _).mono

theorem State.tick_touches : s.Touches [.clk, .crt, .jnu, .lki] s.tick :=
  .ite (fun _ => .ite (fun _ => (s.touch_clk _).mono) fun _ => s.wrapDay_touches) fun _ => .refl _ s

/-! ## Timer expiries -/

theorem State.awaitCardOut_touches (l : Lane) : s.Touches Field.sale (s.awaitCardOut l) :=
  .ite (fun _ => (s.closeSale_touches _ _ _).mono) fun _ => .refl _ s

theorem State.inactivityOut_touches (l : Lane) : s.Touches Field.sale (s.inactivityOut l) := by
  unfold State.inactivityOut
  repeat' split
  · exact .refl _ s
  · exact (s.closeSale_touches _ _ _).mono
  · exact s.refund_touches _ _
  · exact .refl _ s

theorem State.windowOut_touches (l : Lane) (k : WaitKind) : s.Touches Field.sale (s.windowOut l k) := by
  unfold State.windowOut
  repeat' split
  · exact s.refund_touches _ _
  · exact s.doubtExpired_touches _
  · exact .refl _ s
  · exact .refl _ s

theorem State.enquiryOut_touches (l : Lane) : s.Touches Field.sale (s.enquiryOut l) := by
  unfold State.enquiryOut
  repeat' split
  · exact .refl _ s
  · exact s.enquiryDone_touches _ _
  · exact (s.stopTimer_touches _).mono
  · exact .refl _ s

theorem State.waitTimerOut_touches : s.Touches [.jnu, .lki] s.waitTimerOut :=
  .ite (fun _ => (s.touch_jnu _).mono.then (State.notify_touches _ _)) fun _ => .refl _ s

theorem State.autoDue_touches : s.Touches [.jnu, .lki] s.autoDue :=
  .ite (fun _ => s.tryAuto_touches _) fun _ => .refl _ s

theorem State.autoRetry_touches : s.Touches [.jnu, .lki] s.autoRetry := by
  unfold State.autoRetry
  split
  · exact .ite (fun _ => s.tryAuto_touches _) fun _ => .refl _ s
  · exact .refl _ s

/-! ## What settles (R26, R28, R201) -/

theorem State.snap_touches (l : Lane) : s.Touches [.lanes] (s.snap l) := s.setLane_touches _ _

theorem State.settle_touches : s.Touches [.lanes, .cdu, .crt, .dbc, .lki, .drives] s.settle :=
  ((State.Touches.forLanes State.refreshScan_touches s).mono.then (.forLanes State.snap_touches _)).then
    (State.pump_touches _)

theorem State.begin_touches : s.Touches [.drives] s.begin := s.touch_drives _

/-! ## Events that reach the link interface without a request -/

theorem State.dropFrame_touches : s.Touches [.lki] s.dropFrame := s.touch_lki _
theorem State.setReceiver_touches (r : Receiver) : s.Touches [.lki] (s.setReceiver r) := s.touch_lki _

theorem State.receiveTimeout_touches : s.Touches [.lki] s.receiveTimeout := by
  unfold State.receiveTimeout
  split
  · exact .refl _ s
  · exact (s.setReceiver_touches _).then (State.dropFrame_touches _)

/-! ## The owners of requests (section 11.3) -/

theorem State.takeStatus_touches : s.Touches [.financialLost, .lki] s.takeStatus :=
  (s.reply_touches _ _).mono.then (State.touch_report _ _ _)

theorem State.takeIdentify_touches : s.Touches [.lki] s.takeIdentify := s.reply_touches _ _

theorem State.takeClockSet_touches (d t : Nat) : s.Touches [.clk, .crt, .jnu, .lki] (s.takeClockSet d t) := by
  refine .ite (fun _ => (s.reply_touches _ _).mono) fun _ => State.Touches.then ?_ (State.reply_touches _ _ _)
  exact .ite (fun _ => (s.touch_clk _).mono.then (State.expiryCheck_touches _)) fun _ => (s.touch_clk _).mono

theorem State.cutDump_touches : s.Touches [.chu, .jnu, .lki] s.cutDump := by
  unfold State.cutDump
  split
  · exact s.endDump_touches _
  · exact .refl _ s

theorem State.takeReset_touches (n : Nat) : s.Touches [.resetPending, .chu, .jnu, .lki] (s.takeReset n) :=
  .ite (fun _ => (s.reply_touches _ _).mono) fun _ => .ite (fun _ => (s.reply_touches _ _).mono) fun _ =>
    (s.cutDump_touches.mono.then (State.touch_resetPending _ _)).then (State.reply_touches _ _ _)

theorem State.takeShutdown_touches : s.Touches [.part, .lki] s.takeShutdown := by
  unfold State.takeShutdown
  split
  · exact (s.touch_part _).mono.then (State.reply_touches _ _ _)
  · exact (s.touch_part _).mono.then (State.reply_touches _ _ _)
  · exact (s.reply_touches _ _).mono

theorem State.takeServiceEnter_touches : s.Touches [.part, .ciu, .crt, .pru, .lki] s.takeServiceEnter := by
  unfold State.takeServiceEnter
  split
  · exact (s.reply_touches _ _).mono
  · exact .ite (fun _ => s.enterService_touches.then (State.reply_touches _ _ _)) fun _ => (s.reply_touches _ _).mono
  · exact (s.reply_touches _ _).mono

theorem State.takeServiceLeave_touches :
    s.Touches [.part, .tablesCleared, .chu, .pru, .jnu, .lki] s.takeServiceLeave := by
  unfold State.takeServiceLeave
  repeat' split
  · exact (s.reply_touches _ _).mono
  · exact (s.reply_touches _ _).mono
  · exact (s.reply_touches _ _).mono
  · exact s.leaveService_touches.then (State.reply_touches _ _ _)

theorem State.openSale_touches (l : Lane) (x : Sale) :
    s.Touches [.saleSeq, .lanes, .cdu, .crt, .pru, .dbc, .drives] (s.openSale l x) := by
  unfold State.openSale
  exact ((((s.endPurpose_touches l).mono.then (State.setTicketSlot_touches _ _ _)).then
    (State.setCrtRes_touches _ _ _)).then (State.touch_saleSeq _ _)).then (State.setLane_touches _ _ _)

theorem State.openCard_touches (l : Lane) (x : Sale) : s.Touches (.saleSeq :: Field.sale) (s.openCard l x) :=
  ((((s.openSale_touches _ _).mono.then (State.reply_touches _ _ _)).then (State.enter_touches _ _ _)).then
    (State.startTimer_touches _ _ _)).then (State.setPurpose_touches _ _ _)

theorem State.openPaper_touches (l : Lane) (x : Sale) : s.Touches (.saleSeq :: Field.sale) (s.openPaper l x) := by
  unfold State.openPaper
  split
  · exact (s.reply_touches _ _).mono
  · exact .ite (fun _ => ((s.openSale_touches _ _).mono.then (State.reply_touches _ _ _)).then
      (State.deliver_touches _ _)) fun _ => ((s.openSale_touches _ _).mono.then (State.reply_touches _ _ _)).then
      (State.startPaying_touches _ _)

theorem State.takeSaleOpen_touches (l : Lane) (o : SaleOperands) :
    s.Touches (.saleSeq :: Field.sale) (s.takeSaleOpen l o) := by
  refine .ite (fun _ => (s.reply_touches _ _).mono) fun _ => ?_
  split
  · exact (s.reply_touches _ _).mono
  · exact .ite (fun _ => s.openCard_touches _ _) fun _ => s.openPaper_touches _ _

theorem State.takeSaleCancel_touches (l : Lane) : s.Touches Field.sale (s.takeSaleCancel l) := by
  unfold State.takeSaleCancel
  split
  · exact (s.closeSale_touches _ _ _).mono.then (State.reply_touches _ _ _)
  · exact (s.refund_touches _ _).then (State.reply_touches _ _ _)
  all_goals exact (s.reply_touches _ _).mono

theorem State.takeCardRead_touches (l : Lane) :
    s.Touches [.lanes, .cdu, .crt, .dbc, .lki, .drives] (s.takeCardRead l) := by
  unfold State.takeCardRead
  repeat' split
  · exact (s.reply_touches _ _).mono
  · exact (s.reply_touches _ _).mono
  · exact (s.reply_touches _ _).mono
  · exact (s.reply_touches _ _).mono
  · exact ((((s.endPurpose_touches _).mono.then (State.enter_touches _ _ _)).then (State.startTimer_touches _ _ _)).then
      (State.setPurpose_touches _ _ _)).then (State.reply_touches _ _ _)

theorem State.restorePoll_touches (l : Lane) : s.Touches [.cdu, .dbc, .drives] (s.restorePoll l) :=
  (s.setSession_touches _ _).mono.then (State.restoreNext_touches _ _)

theorem State.takeLaneRestore_touches (l : Lane) :
    s.Touches [.lanes, .restore, .cdu, .dbc, .lki, .drives] (s.takeLaneRestore l) :=
  .ite (fun _ => ((s.setLane_touches _ _).mono.then (State.touch_restore _ _)).then (State.restorePoll_touches _ _))
    fun _ => (s.setLane_touches _ _).mono.then (State.restoreReply_touches _ _ _)

theorem State.takeCoinInhibit_touches (l : Lane) (ds : List Nat) : s.Touches [.ciu, .lki] (s.takeCoinInhibit l ds) :=
  .ite (fun _ => (s.setCoin_touches _ _).mono.then (State.reply_touches _ _ _)) fun _ => (s.reply_touches _ _).mono

theorem State.takeCoinAudit_touches (l : Lane) (n : Nat) : s.Touches [.ciu, .lki] (s.takeCoinAudit l n) := by
  unfold State.takeCoinAudit
  repeat' split
  · exact (s.setCoin_touches _ _).mono.then (State.reply_touches _ _ _)
  · exact (s.reply_touches _ _).mono
  · exact (s.reply_touches _ _).mono
  · exact (s.reply_touches _ _).mono
  · exact (s.reply_touches _ _).mono
  · exact (s.reply_touches _ _).mono
  · exact (s.setCoin_touches _ _).mono.then (State.reply_touches _ _ _)

theorem State.takeTubeRead_touches : s.Touches [.lki] s.takeTubeRead := s.reply_touches _ _

theorem State.takeTubeSet_touches (n c : Nat) : s.Touches [.chu, .jnu, .lki] (s.takeTubeSet n c) := by
  unfold State.takeTubeSet
  dsimp only
  repeat' split
  · exact (s.reply_touches _ _).mono
  · exact (s.reply_touches _ _).mono
  · exact (s.reply_touches _ _).mono
  · exact (s.reply_touches _ _).mono
  · exact (((s.setCount_touches _ _).mono.then (State.evalLow_touches _ _)).then (State.storeOther_touches _ _)).then
      (State.reply_touches _ _ _)

theorem State.takeTubeDump_touches (n c : Nat) : s.Touches [.chu, .lki, .drives] (s.takeTubeDump n c) := by
  unfold State.takeTubeDump
  dsimp only
  repeat' split
  · exact (s.reply_touches _ _).mono
  · exact (s.reply_touches _ _).mono
  · exact (s.reply_touches _ _).mono
  · exact (s.reply_touches _ _).mono
  · exact (s.reply_touches _ _).mono
  · exact ((s.touch_chu _).mono.then (State.pulse_touches _ _)).then (State.reply_touches _ _ _)

theorem State.takeRecoveryList_touches (a n : Nat) : s.Touches [.lki] (s.takeRecoveryList a n) :=
  .ite (fun _ => s.reply_touches _ _) fun _ => s.reply_touches _ _

theorem State.takeRecoveryDrop_touches (n : Nat) : s.Touches [.crt, .jnu, .lki] (s.takeRecoveryDrop n) := by
  unfold State.takeRecoveryDrop
  repeat' split
  · exact (s.reply_touches _ _).mono
  · exact (s.reply_touches _ _).mono
  · exact (s.reply_touches _ _).mono
  · exact (s.abandon_touches _ _).then (State.reply_touches _ _ _)
  · exact (s.reply_touches _ _).mono

theorem State.takePaperLoaded_touches : s.Touches [.pru, .dbc, .lki, .drives] s.takePaperLoaded :=
  (((s.touch_pru _).mono.then (State.evalPaperLow_touches _)).then (State.wantStatus_touches _)).then
    (State.reply_touches _ _ _)

theorem State.takePrintText_touches (ls : List (List Byte)) :
    s.Touches [.pru, .lki, .dbc, .drives] (s.takePrintText ls) := by
  refine .ite (fun _ => (s.reply_touches _ _).mono) fun _ => .ite (fun _ => (s.reply_touches _ _).mono) fun _ => ?_
  dsimp only
  split
  · exact (s.askJob_touches _ _ _ _).then (State.reply_touches _ _ _)
  · exact (s.askJob_touches _ _ _ _).then (State.reply_touches _ _ _)

theorem State.takePrintCancel_touches (n : Nat) : s.Touches [.pru, .lki] (s.takePrintCancel n) := by
  unfold State.takePrintCancel
  split
  · exact (s.reply_touches _ _).mono
  · split
    · exact (s.reply_touches _ _).mono
    · exact .ite (fun _ => (s.reply_touches _ _).mono) fun _ => .ite
        (fun _ => (s.touch_pru _).mono.then (State.reply_touches _ _ _)) fun _ =>
        (s.endJob_touches _ _).then (State.reply_touches _ _ _)

theorem State.takePrintList_touches : s.Touches [.lki, .freeCount] s.takePrintList :=
  .ite (fun _ => (s.reply_touches _ _).mono.then (State.touch_freeCount _ _)) fun _ => (s.reply_touches _ _).mono

theorem State.takeBusRead_touches : s.Touches [.lki] s.takeBusRead := s.reply_touches _ _

theorem State.takeJournalRead_touches (a n : Nat) : s.Touches [.lki] (s.takeJournalRead a n) :=
  .ite (fun _ => s.reply_touches _ _) fun _ => s.reply_touches _ _

theorem State.takeJournalRelease_touches (a n : Nat) : s.Touches [.jnu, .lki] (s.takeJournalRelease a n) :=
  .ite (fun _ => (s.reply_touches _ _).mono) fun _ => .ite (fun _ => (s.reply_touches _ _).mono) fun _ =>
    .ite (fun _ => (s.reply_touches _ _).mono) fun _ =>
      (s.releaseRecords_touches _).mono.then (State.reply_touches _ _ _)

theorem State.takeTotalsRead_touches (a b c : Nat) : s.Touches [.lki] (s.takeTotalsRead a b c) := by
  unfold State.takeTotalsRead
  repeat' split
  all_goals exact s.reply_touches _ _

theorem State.endRetry_touches : s.Touches [.jnu] s.endRetry := by
  unfold State.endRetry
  split
  · exact s.touch_jnu _
  · exact .refl _ s

theorem State.takeTotalsSnapshot_touches : s.Touches [.jnu, .lki] s.takeTotalsSnapshot :=
  .ite (fun _ => ((s.takeSnapshot_touches _).then (State.endRetry_touches _)).then (State.reply_touches _ _ _)) fun _ =>
    (s.reply_touches _ _).mono

/-! ## Tables (R187) -/

/-- A table write that is taken touches the block whose table it is. -/
abbrev Field.tables : List Field := [.timers, .fcu, .ciu, .chu, .pru, .jnu, .lki]

theorem State.writeTube_touches {n : TubeNo} {d c a b : Nat} {t : State} (h : s.writeTube n d c a b = .taken t) :
    s.Touches [.chu, .lki] t := by
  unfold State.writeTube at h
  dsimp only at h
  split at h
  · cases h
  · split at h
    · cases h
    · cases h
      exact .ite (fun _ => (s.setTube_touches _ _).mono.then (State.setLow_touches _ _ _)) fun _ =>
        (s.setTube_touches _ _).mono

theorem State.ofTariff_touches {x : Option Tariff} {t : State} (h : WriteAnswer.ofTariff s x = .taken t) :
    s.Touches [.fcu] t := by
  cases x
  · cases h
  · cases h
    exact s.touch_fcu _

theorem State.writeTable_touches {i : Nat} {e : TableEntry} {t : State} (h : s.writeTable i e = .taken t) :
    s.Touches Field.tables t := by
  cases e <;> simp only [State.writeTable, State.writeJournal] at h
  all_goals repeat' split at h
  all_goals first
    | exact WriteAnswer.noConfusion h
    | exact (s.ofTariff_touches h).mono
    | exact (s.writeTube_touches h).mono
    | (cases h; exact (s.touch_ciu _).mono)
    | (cases h; exact (s.touch_chu _).mono)
    | (cases h; exact (s.touch_pru _).mono)
    | (cases h; exact (s.touch_jnu _).mono)
    | (cases h; exact (s.touch_lki _).mono)
    | (cases h; exact (s.touch_timers _).mono)

theorem State.tableWrite_touches (i : Nat) (e : TableEntry) : s.Touches Field.tables (s.tableWrite i e) := by
  unfold State.tableWrite
  split
  · exact (s.reply_touches _ _).mono
  · split
    · exact (s.writeTable_touches ‹_›).then (State.reply_touches _ _ _)
    · exact (s.reply_touches _ _).mono

theorem State.tableWriteOther_touches : s.Touches [.lki] s.tableWriteOther :=
  .ite (fun _ => s.reply_touches _ _) fun _ => s.reply_touches _ _

theorem State.tableRead_touches (t i : Nat) : s.Touches [.lki] (s.tableRead t i) := by
  unfold State.tableRead
  split <;> exact s.reply_touches _ _

/-! ## The gate (R200) -/

/-- What some request or other may touch. -/
abbrev Field.request : List Field :=
  [.part, .resetPending, .clk, .tablesCleared, .financialLost, .saleSeq, .timers, .fcu, .freeCount] ++ Field.work

theorem State.onLane_touches {fs : List Field} {f : State → Lane → State} (h : ∀ l, s.Touches fs (f s l)) (n : Nat)
    (k : [Field.lki] ⊆ fs := by decide) : s.Touches fs (s.onLane n f) := by
  unfold State.onLane
  split
  · exact h _
  · exact (s.reply_touches _ _).mono k

theorem State.perform_touches (h : Held) : s.Touches Field.request (s.perform h) := by
  unfold State.perform
  split
  · exact s.takeStatus_touches.mono
  · exact s.takeIdentify_touches.mono
  · exact (s.takeClockSet_touches _ _).mono
  · exact (s.takeReset_touches _).mono
  · exact s.takeShutdown_touches.mono
  · exact s.takeServiceEnter_touches.mono
  · exact s.takeServiceLeave_touches.mono
  · exact (s.tableWrite_touches _ _).mono
  · exact s.tableWriteOther_touches.mono
  · exact (s.tableRead_touches _ _).mono
  · exact s.onLane_touches (fun l => (s.takeSaleOpen_touches l _).mono) _
  · exact s.onLane_touches (fun l => (s.takeSaleCancel_touches l).mono) _
  · exact s.onLane_touches (fun l => (s.takeCardRead_touches l).mono) _
  · exact s.onLane_touches (fun l => (s.takeLaneRestore_touches l).mono) _
  · exact s.onLane_touches (fun l => (s.takeCoinInhibit_touches l _).mono) _
  · exact s.onLane_touches (fun l => (s.takeCoinAudit_touches l _).mono) _
  · exact s.takeTubeRead_touches.mono
  · exact (s.takeTubeSet_touches _ _).mono
  · exact (s.takeTubeDump_touches _ _).mono
  · exact (s.takeRecoveryList_touches _ _).mono
  · exact (s.takeRecoveryDrop_touches _).mono
  · exact s.takePaperLoaded_touches.mono
  · exact (s.takePrintText_touches _).mono
  · exact (s.takePrintCancel_touches _).mono
  · exact s.takePrintList_touches.mono
  · exact s.takeBusRead_touches.mono
  · exact (s.takeJournalRead_touches _ _).mono
  · exact (s.takeJournalRelease_touches _ _).mono
  · exact (s.takeTotalsRead_touches _ _ _).mono
  · exact s.takeTotalsSnapshot_touches.mono
  · exact (s.reply_touches _ _).mono
  · exact (s.reply_touches _ _).mono

theorem State.serve_touches : s.Touches Field.request s.serve := by
  unfold State.serve
  split
  · exact .refl _ s
  · split
    · exact (s.reply_touches _ _).mono
    · exact s.perform_touches _

theorem State.acceptFrame_touches (h : Held) (n : Nat) : s.Touches Field.request (s.acceptFrame h n) :=
  .ite (fun _ => s.dropFrame_touches.mono) fun _ => .ite
    (fun _ => (s.touch_lki _).mono.then (State.serve_touches _)) fun _ => (s.touch_lki _).mono

theorem State.request_touches (lane tag : Nat) (r : Request) : s.Touches Field.request (s.request lane tag r) :=
  s.acceptFrame_touches _ _

theorem State.frame_touches (c lane tag : Nat) (bs : List Byte) : s.Touches Field.request (s.frame c lane tag bs) :=
  s.acceptFrame_touches _ _

theorem State.frameEnd_touches (bs : List Byte) : s.Touches Field.request (s.frameEnd bs) :=
  .ite (fun _ => (s.setReceiver_touches _).mono.then (State.frame_touches _ _ _ _ _)) fun _ =>
    (s.setReceiver_touches _).mono.then (State.dropFrame_touches _)

theorem State.takeByte_touches (b : Byte) (e : Bool) : s.Touches Field.request (s.takeByte b e) := by
  unfold State.takeByte
  dsimp only
  repeat' split
  · exact (s.setReceiver_touches _).mono
  · exact .refl _ s
  · exact (s.setReceiver_touches _).mono.then (State.dropFrame_touches _)
  · exact (s.setReceiver_touches _).mono.then (State.dropFrame_touches _)
  · exact s.frameEnd_touches _
  · exact (s.setReceiver_touches _).mono

/-! ## The widest footprints -/

/-- Every field but the queue of commands. -/
abbrev Field.all : List Field := [.warnHeld, .warned, .start] ++ Field.request

theorem State.replySent_touches : s.Touches Field.all s.replySent :=
  .ite (fun _ => (s.touch_lki _).mono.then (State.resetNow_touches _)) fun _ =>
    (s.touch_lki _).mono.then (State.serve_touches _)

theorem State.transmitted_touches : s.Touches Field.all s.transmitted := by
  unfold State.transmitted
  split
  · exact .refl _ s
  · exact (s.touch_lki _).mono
  · exact s.replySent_touches

theorem State.checkSections_touches (b : BadSections) : s.Touches Field.all (s.checkSections b) := by
  unfold State.checkSections
  intro f hf
  cases f <;> first
    | exact absurd (by decide) hf
    | (dsimp only [State.sameOn]; repeat' split
       all_goals rfl)

theorem State.powerOn_touches (p : PowerOnInputs) : s.Touches Field.all (s.powerOn p) :=
  ((s.checkSections_touches _).then (State.touch_clk _ _)).then (State.startUp_touches _ _ _ _)

theorem State.startupEnd_touches (b : Bool) : s.Touches ([.part, .warnHeld, .warned] ++ Field.sale) (s.startupEnd b) := by
  unfold State.startupEnd
  split
  · dsimp only
    have h1 : ∀ t : State, t.Touches [.warnHeld] { t with warnHeld := false } := by
      intro t f hf
      cases f <;> first | rfl | exact absurd (by decide) hf
    have h2 : s.Touches ([.part, .warnHeld, .warned] ++ Field.sale)
        { s.powerRecord.forLanes State.idleLane with warnHeld := false } :=
      (s.powerRecord_touches.mono.then (.forLanes State.idleLane_touches _)).then (h1 _)
    repeat' split
    · exact ((h2.then (State.touch_part _ _)).then (State.leaveStarting_touches _)).then (State.warn_touches _)
    · exact (h2.then (State.enterService_touches _)).then (State.leaveStarting_touches _)
    · exact (h2.then (State.touch_part _ _)).then (State.leaveStarting_touches _)
  · exact .refl _ s

end Sys2Proof.Machine
end

