-- ==== Sys2Proof/Laws/Effects.lean ====
section
/-! SUPPORT. What the shared operations do to the block they act on: the journal (R168 to R177), the device bus (R154 to
R160), the queues of the link (R199 to R202), the outputs, and the tubes. -/

namespace Sys2Proof.Machine

variable (s : State)

/-! ## The journal -/

/-- The watermark test changes `armed` alone, and clears it when the stored records reach the watermark (R174). -/
theorem State.highCheck_jnu (n : Nat) :
    (s.highCheck n).jnu = { s.jnu with
      armed := s.jnu.armed && !decide (n < s.jnu.inForce ∧ s.jnu.inForce ≤ s.stored) } := by
  unfold State.highCheck
  by_cases h : s.jnu.armed = true <;> by_cases k : n < s.jnu.inForce ∧ s.jnu.inForce ≤ s.stored
  · rw [if_pos ⟨h, k⟩, State.notify_only]
    simp [h, k]
  · rw [if_neg fun e => k e.2]
    simp only [k, decide_false, Bool.not_false, Bool.and_true]
  · rw [if_neg fun e => h e.1]
    cases hj : s.jnu
    simp_all
  · rw [if_neg fun e => h e.1]
    simp only [k, decide_false, Bool.not_false, Bool.and_true]

/-- What storing a record does to the journal unit (R168, R169, R173 to R175). -/
theorem State.store_jnu (b : RecordBody) :
    (s.store b).jnu =
      { s.jnu with
        journal := s.jnu.journal ++ [⟨s.jnu.recSeq, s.jnu.lost, s.now, b⟩]
        recSeq := seqNext s.jnu.recSeq
        incomplete := false
        lost := 0
        waitTimer := if s.jnu.journal = [] then s.jnu.waitTimer.start else s.jnu.waitTimer
        totals := match b with
          | .sale r => s.jnu.totals.addSale r
          | _ => s.jnu.totals
        armed := s.jnu.armed && !decide (s.stored < s.jnu.inForce ∧ s.jnu.inForce ≤ s.stored + 1) } := by
  unfold State.store
  rw [State.highCheck_jnu]
  simp only [State.stored, List.length_append, List.length_singleton]
  rfl

@[simp] theorem State.store_journal (b : RecordBody) :
    (s.store b).jnu.journal = s.jnu.journal ++ [⟨s.jnu.recSeq, s.jnu.lost, s.now, b⟩] := by
  rw [State.store_jnu]

@[simp] theorem State.store_recSeq (b : RecordBody) : (s.store b).jnu.recSeq = seqNext s.jnu.recSeq := by
  rw [State.store_jnu]

@[simp] theorem State.store_stored (b : RecordBody) : (s.store b).stored = s.stored + 1 := by simp [State.stored]

/-- A record that is not admitted leaves the journal as it stands (R172, R173). -/
theorem State.storeOther_journal (b : RecordBody) :
    (s.storeOther b).jnu.journal =
      if s.admits then s.jnu.journal ++ [⟨s.jnu.recSeq, s.jnu.lost, s.now, b⟩] else s.jnu.journal := by
  unfold State.storeOther
  split
  · exact s.store_journal b
  · rfl

theorem State.storeOther_recSeq (b : RecordBody) :
    (s.storeOther b).jnu.recSeq = if s.admits then seqNext s.jnu.recSeq else s.jnu.recSeq := by
  unfold State.storeOther
  split
  · exact s.store_recSeq b
  · rfl

/-- What a snapshot does to the journal unit (R180). -/
theorem State.takeSnapshot_jnu (m : SnapshotMode) :
    (s.takeSnapshot m).jnu =
      { s.jnu with
        journal := s.jnu.journal ++ [⟨s.jnu.recSeq, s.jnu.lost, s.now, .snapshot (s.jnu.totals.record m s.now)⟩]
        recSeq := seqNext s.jnu.recSeq
        incomplete := false
        lost := 0
        waitTimer := if s.jnu.journal = [] then s.jnu.waitTimer.start else s.jnu.waitTimer
        totals := .zero s.now
        snapshot := some ⟨s.jnu.totals, s.now, m⟩
        armed := s.jnu.armed && !decide (s.stored < s.jnu.inForce ∧ s.jnu.inForce ≤ s.stored + 1) } := by
  unfold State.takeSnapshot
  dsimp only
  rw [State.store_jnu]
  rfl

@[simp] theorem State.releaseRecords_journal (n : Nat) : (s.releaseRecords n).jnu.journal = s.jnu.journal.drop n := rfl
@[simp] theorem State.releaseRecords_recSeq (n : Nat) : (s.releaseRecords n).jnu.recSeq = s.jnu.recSeq := rfl
@[simp] theorem State.releaseRecords_totals (n : Nat) : (s.releaseRecords n).jnu.totals = s.jnu.totals := rfl

/-! ### Sequences (R169) -/

theorem sequenced_append {r : Record} : ∀ {rs : List Record}, sequenced rs r.seq → sequenced (rs ++ [r]) (seqNext r.seq)
  | [], _ => rfl
  | [_], h => ⟨h, rfl⟩
  | _ :: q :: rs, h => ⟨h.1, sequenced_append (rs := q :: rs) h.2⟩

theorem sequenced_tail {r : Record} {rs : List Record} {n : Nat} (h : sequenced (r :: rs) n) : sequenced rs n := by
  cases rs with
  | nil => exact trivial
  | cons q rs => exact h.2

theorem sequenced_drop {n : Nat} : ∀ (k : Nat) {rs : List Record}, sequenced rs n → sequenced (rs.drop k) n
  | 0, _, h => h
  | _ + 1, [], h => h
  | k + 1, _ :: _, h => sequenced_drop k (sequenced_tail h)

theorem State.store_sequenced (b : RecordBody) (h : s.recordsSequenced) : (s.store b).recordsSequenced := by
  unfold State.recordsSequenced at *
  rw [State.store_journal, State.store_recSeq]
  exact sequenced_append (r := ⟨s.jnu.recSeq, s.jnu.lost, s.now, b⟩) h

theorem State.storeOther_sequenced (b : RecordBody) (h : s.recordsSequenced) : (s.storeOther b).recordsSequenced := by
  unfold State.storeOther
  split
  · exact s.store_sequenced b h
  · exact h

theorem State.releaseRecords_sequenced (n : Nat) (h : s.recordsSequenced) : (s.releaseRecords n).recordsSequenced :=
  sequenced_drop n h

/-- An operation that leaves the journal unit leaves its sequences. -/
theorem State.Touches.sequenced {fs : List Field} {s t : State} (h : s.Touches fs t) (hs : s.recordsSequenced)
    (k : Field.jnu ∉ fs := by decide) : t.recordsSequenced := by
  have e := h.jnu k
  simpa [State.recordsSequenced, e] using hs

/-! ## The device bus -/

/-- A grant makes its device the holder, takes its request out of the waiting set and drives its select (R155, R156). -/
theorem State.grant_dbc (d : Dev) (r : BusReq) :
    (s.grant d r).dbc = { s.dbc with
      current := some ⟨d, r, .sending, none, !s.dbc.readyHigh⟩
      waiting := s.dbc.waiting.set d none
      pointer := some d } := rfl

@[simp] theorem State.grant_drives (d : Dev) (r : BusReq) : (s.grant d r).drives = s.drives ++ [.select d] := rfl

/-- A request placed on a free bus is granted at once (R155). -/
theorem State.place_free (d : Dev) (r : BusReq) (h : s.dbc.current = none) (k : s.dbc.noneWaiting = true) :
    s.place d r = s.grant d r := by simp [State.place, h, k]

/-- A request placed while an exchange is in progress waits (R155). -/
theorem State.place_waits (d : Dev) (r : BusReq) (h : s.dbc.current ≠ none) :
    s.place d r = { s with dbc := { s.dbc with waiting := s.dbc.waiting.set d (some r) } } := by
  simp [State.place, h]

/-- With nothing waiting the bus becomes free; otherwise the first device after the grant pointer has it (R155). -/
theorem State.grantNext_free (h : s.dbc.firstWaiting (devOrder s.dbc.pointer) = none) :
    s.grantNext = { s with dbc := { s.dbc with current := none } } := by simp [State.grantNext, h]

theorem State.grantNext_grants {d : Dev} {r : BusReq}
    (h : s.dbc.firstWaiting (devOrder s.dbc.pointer) = some (d, r)) : s.grantNext = s.grant d r := by
  simp [State.grantNext, h]

theorem State.endExchange_dbc (d : Dev) (o : ExOutcome) :
    (s.endExchange d o).dbc = { s.dbc with
      readyHigh := !s.dbc.heldLow
      last := s.dbc.last.set d o.last
      counts := s.dbc.counts.set d (o.count (s.dbc.counts.get d)) } := rfl

theorem Dbc.noneWaiting_iff (d : Dbc) : d.noneWaiting = true ↔ ∀ x, d.waiting.get x = none := by
  simp only [Dbc.noneWaiting, devOrder, List.all_cons, List.all_nil, Bool.and_true, Bool.and_eq_true,
    Option.isNone_iff_eq_none]
  exact ⟨fun h x => by cases x <;> simp [h], fun h => ⟨h _, h _, h _⟩⟩

theorem State.place_busBusy (d : Dev) (r : BusReq) (h : s.busBusy) : (s.place d r).busBusy := by
  intro e
  by_cases k : s.dbc.current = none
  · rw [State.place_free s d r k (h k)] at e
    simp [State.grant_dbc] at e
  · rw [State.place_waits s d r k] at e
    exact absurd e k

theorem State.withdraw_busBusy (d : Dev) (h : s.busBusy) : (s.withdraw d).busBusy := by
  intro e
  have := (Dbc.noneWaiting_iff _).1 (h e)
  refine (Dbc.noneWaiting_iff _).2 fun x => ?_
  simp [State.withdraw, this x]

/-- The end of an exchange leaves no request waiting on a free bus, whatever stood before (R155, R159). -/
theorem State.grantNext_busBusy : s.grantNext.busBusy := by
  cases h : s.dbc.firstWaiting (devOrder s.dbc.pointer) with
  | some x =>
    rw [State.grantNext_grants s (d := x.1) (r := x.2) h]
    intro e
    simp [State.grant_dbc] at e
  | none =>
    rw [State.grantNext_free s h]
    intro _
    refine (Dbc.noneWaiting_iff _).2 fun x => ?_
    simp only [Dbc.firstWaiting, List.findSome?_eq_none_iff, Option.map_eq_none_iff] at h
    refine h x ?_
    cases s.dbc.pointer with
    | none => cases x <;> simp [devOrder]
    | some p => cases p <;> cases x <;> simp [devOrder]

theorem State.Touches.busBusy {fs : List Field} {s t : State} (h : s.Touches fs t) (hs : s.busBusy)
    (k : Field.dbc ∉ fs := by decide) : t.busBusy := by
  have e := h.dbc k
  simpa [State.busBusy, e] using hs

/-! ## The queues of the link -/

theorem bump255_le (n : Nat) (h : n ≤ 255) : bump255 n ≤ 255 := by
  unfold bump255
  split
  · omega
  · exact Nat.le_refl _

theorem State.notify_bounded (n : Notice) (h : s.linkBounded) : (s.notify n).linkBounded := by
  unfold State.linkBounded at *
  rw [State.notify_lki]
  split
  · exact ⟨h.hold, by simp; omega, h.drops, h.lost⟩
  · exact ⟨h.hold, h.notices, h.drops, bump255_le _ h.lost⟩

theorem State.declare_bounded (c : Cond) (h : s.linkBounded) : (s.declare c).linkBounded := by
  have k : State.linkBounded
      { s with lki := { s.lki with conds := c.insert s.lki.conds, raised := c.insert s.lki.raised } } :=
    ⟨h.hold, h.notices, h.drops, h.lost⟩
  unfold State.declare
  split
  · exact h
  · dsimp only
    split
    · exact k
    · exact State.notify_bounded _ _ k

theorem State.clear_bounded (c : Cond) (h : s.linkBounded) : (s.clear c).linkBounded := by
  have k : State.linkBounded { s with lki := { s.lki with conds := c.remove s.lki.conds } } :=
    ⟨h.hold, h.notices, h.drops, h.lost⟩
  unfold State.clear
  split
  · dsimp only
    split
    · exact State.notify_bounded _ _ k
    · exact k
  · exact h

theorem State.reply_bounded (c : Status) (bs : List Byte) (h : s.linkBounded) : (s.reply c bs).linkBounded := by
  unfold State.reply
  split
  · exact ⟨h.hold, h.notices, h.drops, h.lost⟩
  · exact h

theorem State.pump_bounded (h : s.linkBounded) : s.pump.linkBounded := by
  unfold State.pump
  split
  · exact h
  · split
    · exact ⟨h.hold, h.notices, h.drops, h.lost⟩
    · split
      · rename_i e
        have := h.notices
        rw [e] at this
        exact ⟨h.hold, Nat.le_of_succ_le this, h.drops, h.lost⟩
      · exact h

theorem State.dropFrame_bounded (h : s.linkBounded) : s.dropFrame.linkBounded :=
  ⟨h.hold, h.notices, bump255_le _ h.drops, h.lost⟩

theorem State.Touches.bounded {fs : List Field} {s t : State} (h : s.Touches fs t) (hs : s.linkBounded)
    (k : Field.lki ∉ fs := by decide) : t.linkBounded := by
  have e := h.lki k
  simpa [State.linkBounded, e] using hs

theorem State.highCheck_bounded (n : Nat) (h : s.linkBounded) : (s.highCheck n).linkBounded := by
  unfold State.highCheck
  split
  · exact State.notify_bounded _ _ h
  · exact h

/-- The watermark's notice is the only thing that storing does to the link. -/
theorem State.store_bounded (b : RecordBody) (h : s.linkBounded) : (s.store b).linkBounded :=
  State.highCheck_bounded _ _ h

theorem State.storeOther_bounded (b : RecordBody) (h : s.linkBounded) : (s.storeOther b).linkBounded := by
  unfold State.storeOther
  split
  · exact s.store_bounded b h
  · exact h

/-! ## Outputs (Law 10) -/

theorem State.drive_law10 (d : Drive) (h : s.law10) (k : d.toCashbox = true → s.ciu.boxPresent = true) :
    (s.drive d).law10 := by
  refine ⟨?_, h.2⟩
  rintro ⟨e, he, hc⟩
  simp only [State.drive, List.mem_append, List.mem_singleton] at he
  rcases he with he | rfl
  · exact h.1 ⟨e, he, hc⟩
  · exact k hc

/-- Law 10 reads four things of a state: the pulses, the cashbox switch, the payout diverter and the dump under way. -/
theorem State.law10_of_eq {s t : State} (hs : s.law10) (e : t.drives = s.drives)
    (eb : t.ciu.boxPresent = s.ciu.boxPresent) (ev : t.chu.diverterBox = s.chu.diverterBox)
    (ed : t.chu.dump = s.chu.dump) : t.law10 := by
  simpa [State.law10, e, eb, ev, ed] using hs

theorem State.Touches.law10 {fs : List Field} {s t : State} (h : s.Touches fs t) (hs : s.law10)
    (k : Field.drives ∉ fs := by decide) (kc : Field.ciu ∉ fs := by decide) (kh : Field.chu ∉ fs := by decide) :
    t.law10 :=
  State.law10_of_eq hs (h.drives k) (by rw [h.ciu kc]) (by rw [h.chu kh]) (by rw [h.chu kh])

/-- The end of a dump puts the diverter back at the payout cup, so what is left of Law 10 are the pulses. -/
theorem State.endDump_law10 (d : Dump) (h : (∃ e ∈ s.drives, e.toCashbox) → s.ciu.boxPresent = true) :
    (s.endDump d).law10 := by
  have e : ∀ (u : State) (b : RecordBody), (u.storeOther b).chu = u.chu ∧ (u.storeOther b).drives = u.drives ∧
      (u.storeOther b).ciu = u.ciu := fun u b =>
    ⟨(State.storeOther_touches u b).chu, (State.storeOther_touches u b).drives, (State.storeOther_touches u b).ciu⟩
  have n : ∀ (u : State) (m : Notice), (u.notify m).chu = u.chu ∧ (u.notify m).drives = u.drives ∧
      (u.notify m).ciu = u.ciu := fun u m =>
    ⟨(State.notify_touches u m).chu, (State.notify_touches u m).drives, (State.notify_touches u m).ciu⟩
  refine ⟨?_, ?_⟩
  · unfold State.endDump
    simpa [e, n] using h
  · unfold State.endDump
    simp [e, n]

/-! ## Tubes (R81 to R83) -/

/-- A re-evaluation of low states moves the low flag of tubes alone. -/
theorem State.setLow_tube (n m : TubeNo) (b : Bool) :
    (s.setLow n b).tube m = if m = n then { s.tube n with low := b } else s.tube m := by
  have e : (s.setLow n b).chu = (s.setTube n { s.tube n with low := b }).chu := by
    unfold State.setLow
    dsimp only
    split
    · exact (State.declare_touches _ _).chu
    · exact (State.clear_touches _ _).chu
  have f : (s.setLow n b).tube m = (s.setTube n { s.tube n with low := b }).tube m := by
    simp only [State.tube, e]
  rw [f, State.tube_setTube]

theorem State.setLow_res (n : TubeNo) (b : Bool) : (s.setLow n b).chu.res = s.chu.res := by
  unfold State.setLow
  dsimp only
  split
  · rw [(State.declare_touches _ _).chu]
    rfl
  · rw [(State.clear_touches _ _).chu]
    rfl

theorem State.evalLow_count (n m : TubeNo) : ((s.evalLow n).tube m).count = (s.tube m).count := by
  have h : ∀ b, ((s.setLow n b).tube m).count = (s.tube m).count := by
    intro b
    rw [State.setLow_tube]
    split
    · rename_i e; rw [e]
    · rfl
  unfold State.evalLow
  dsimp only
  repeat' split
  all_goals first | rfl | exact h _

theorem State.evalLow_res (n : TubeNo) : (s.evalLow n).chu.res = s.chu.res := by
  unfold State.evalLow
  dsimp only
  repeat' split
  all_goals first | rfl | exact s.setLow_res _ _

theorem State.evalLows_keeps (m : TubeNo) :
    (s.evalLows.tube m).count = (s.tube m).count ∧ s.evalLows.chu.res = s.chu.res := by
  have h : ∀ (ns : List TubeNo) (t : State),
      ((ns.foldl State.evalLow t).tube m).count = (t.tube m).count ∧
        (ns.foldl State.evalLow t).chu.res = t.chu.res := by
    intro ns
    induction ns with
    | nil => exact fun t => ⟨rfl, rfl⟩
    | cons n ns ih =>
      intro t
      rw [List.foldl_cons]
      exact ⟨(ih _).1.trans (t.evalLow_count n m), (ih _).2.trans (t.evalLow_res n)⟩
  unfold State.evalLows
  exact h TubeNo.all s

/-! ## Lane state (R8) -/

/-- The lane's new state where R1 lets the lane enter it: the CARD_WAIT kind stands in that state alone. -/
theorem State.enter_lane (l m : Lane) (st : LaneState) :
    (s.enter l st).lane m =
      if m = l ∧ (s.lane l).sale.isSome = st.selling then
        { s.lane l with
          state := st
          sale := (s.lane l).sale.map fun x => { x with waitKind := if st = .cardWait then x.waitKind else none } }
      else s.lane m := by
  have e : ∀ (t : State) (n : Notice), (t.notify n).lane m = t.lane m := fun t n => by
    simp only [State.lane, (t.notify_touches n).lanes]
  unfold State.enter
  dsimp only
  cases h : (s.lane l).sale with
  | none =>
    cases k : st.selling
    · rw [if_neg Bool.false_ne_true, State.lane_setLane, Option.map_none, ← h]
      simp only [h, Option.isSome_none, and_true]
    · simp only [if_true, Option.isSome_none, Bool.false_eq_true, and_false, if_false]
  | some x =>
    cases k : st.selling
    · simp only [Bool.false_eq_true, if_false, Option.isSome_some, Bool.true_eq_false, and_false]
    · dsimp only
      rw [if_pos rfl]
      simp only [Option.isSome_some, and_true, Option.map_some]
      split
      · rw [State.lane_setLane]
      · rw [e, State.lane_setLane]

/-! ## The recovery table (R121) -/

/-- SERVICE and QUIESCED entry clear the deferral-reported flag of every entry, and nothing else of it. -/
theorem State.clearFlags_entry (n : Nat) : s.clearFlags.crt.entry n = (s.crt.entry n).map CrtEntry.unreported := by
  unfold State.clearFlags Crt.entry
  rw [List.getElem?_map]
  cases s.crt.entries[n]? <;> rfl

/-- Clearing the flags keeps how many entries there are and which serials they hold. -/
theorem State.clearFlags_counts : s.clearFlags.crt.count = s.crt.count ∧ s.clearFlags.crt.serials = s.crt.serials ∧
    s.clearFlags.crt.reservations = s.crt.reservations := by
  refine ⟨?_, ?_, rfl⟩
  · simp only [State.clearFlags, Crt.count, List.countP_map]
    congr 1
    funext e
    cases e <;> rfl
  · simp only [State.clearFlags, Crt.serials, List.filterMap_map]
    congr 1
    funext e
    cases e <;> rfl

/-- Law 3 is a matter of the recovery table alone. -/
theorem State.law3_of_crt {t : State} (e : t.crt = s.crt) (h : s.law3) : t.law3 := by
  unfold State.law3 at h ⊢
  rwa [e]

/-- Law 4 is a matter of the print unit alone. -/
theorem State.law4_of_pru {t : State} (e : t.pru = s.pru) (h : s.law4) : t.law4 := by
  unfold State.law4 at h ⊢
  rwa [e]

/-! ## The wait timer (R175) -/

/-- A store leaves the wait timer running just when it was not STOPPED. -/
theorem WaitTimer.start_runs (w : WaitTimer) : w.start.runs = !decide (w = .stopped) := by
  cases w <;> rfl

end Sys2Proof.Machine
end

