-- ==== Sys2Proof/Laws/PerInstr.lean ====
section
/-! SUPPORT. A family of facts per command: a well-formed host request is one that a frame can carry. -/

namespace Sys2Proof.Laws

open Sys2Proof.Machine (Carriage carriage)

/-- A well-formed command that carries a request fits a frame: its lane and tag are bytes, its code is one of the
catalogue and its body, where the operands decide its size, has at most 240 bytes (R199, R200). -/
def Carried.Statement (i : Instr) : Prop :=
  i.wf → ∀ c, carriage i = some c →
    c.lane < 256 ∧ c.tag < 256 ∧ Machine.requestCode c.req ∈ catalogue ∧ Machine.requestSize c.req ≤ 240

/-- A command that carries nothing meets the statement. -/
theorem carried_of_none {i : Instr} (h : carriage i = none) : Carried.Statement i := by
  intro _ c hc
  rw [h] at hc
  cases hc

/-- A command that carries `c` meets the statement when `c` does. -/
theorem carried_of_some {i : Instr} {c : Carriage} (h : carriage i = some c) (hf : i.wf → frameWf c.lane c.tag)
    (hr : catalogue.contains (Machine.requestCode c.req) = true)
    (hs : i.wf → Machine.requestSize c.req ≤ 240) :
    Carried.Statement i := by
  intro hw d hd
  rw [h] at hd
  cases hd
  exact ⟨by simpa [fits] using (hf hw).1, by simpa [fits] using (hf hw).2, by simpa using hr, hs hw⟩

theorem Carried.status (lane tag : Nat) : Carried.Statement (.status lane tag) :=
  carried_of_some rfl id rfl (fun _ => Nat.zero_le _)

theorem Carried.identify (lane tag : Nat) : Carried.Statement (.identify lane tag) :=
  carried_of_some rfl id rfl (fun _ => Nat.zero_le _)

theorem Carried.clockSet (lane tag day second : Nat) : Carried.Statement (.clockSet lane tag day second) :=
  carried_of_some rfl And.left rfl (fun _ => Nat.zero_le _)

theorem Carried.resetWithForce (lane tag : Nat) : Carried.Statement (.resetWithForce lane tag) :=
  carried_of_some rfl id rfl (fun _ => Nat.zero_le _)

theorem Carried.resetWithoutForce (lane tag : Nat) : Carried.Statement (.resetWithoutForce lane tag) :=
  carried_of_some rfl id rfl (fun _ => Nat.zero_le _)

theorem Carried.shutdown (lane tag : Nat) : Carried.Statement (.shutdown lane tag) :=
  carried_of_some rfl id rfl (fun _ => Nat.zero_le _)

theorem Carried.serviceEnter (lane tag : Nat) : Carried.Statement (.serviceEnter lane tag) :=
  carried_of_some rfl id rfl (fun _ => Nat.zero_le _)

theorem Carried.serviceLeave (lane tag : Nat) : Carried.Statement (.serviceLeave lane tag) :=
  carried_of_some rfl id rfl (fun _ => Nat.zero_le _)

theorem Carried.tableWriteProduct (lane tag index : Nat) (e : ProductFields) :
    Carried.Statement (.tableWriteProduct lane tag index e) :=
  carried_of_some rfl And.left rfl (fun _ => Nat.zero_le _)

theorem Carried.tableWriteConcession (lane tag index discount kinds : Nat) :
    Carried.Statement (.tableWriteConcession lane tag index discount kinds) :=
  carried_of_some rfl And.left rfl (fun _ => Nat.zero_le _)

theorem Carried.tableWriteBand (lane tag index used start stop factor : Nat) :
    Carried.Statement (.tableWriteBand lane tag index used start stop factor) :=
  carried_of_some rfl And.left rfl (fun _ => Nat.zero_le _)

theorem Carried.tableWriteTier (lane tag index used threshold rate : Nat) :
    Carried.Statement (.tableWriteTier lane tag index used threshold rate) :=
  carried_of_some rfl And.left rfl (fun _ => Nat.zero_le _)

theorem Carried.tableWriteGlobal (lane tag index unit mode bmax mask : Nat) :
    Carried.Statement (.tableWriteGlobal lane tag index unit mode bmax mask) :=
  carried_of_some rfl And.left rfl (fun _ => Nat.zero_le _)

theorem Carried.tableWriteAcceptance (lane tag index : Nat) (e : AcceptFields) :
    Carried.Statement (.tableWriteAcceptance lane tag index e) :=
  carried_of_some rfl And.left rfl (fun _ => Nat.zero_le _)

theorem Carried.tableWriteTube (lane tag index denom capacity l1 l2 : Nat) :
    Carried.Statement (.tableWriteTube lane tag index denom capacity l1 l2) :=
  carried_of_some rfl And.left rfl (fun _ => Nat.zero_le _)

theorem Carried.tableWriteCoinLimit (lane tag index lc : Nat) :
    Carried.Statement (.tableWriteCoinLimit lane tag index lc) :=
  carried_of_some rfl And.left rfl (fun _ => Nat.zero_le _)

theorem Carried.tableWritePaper (lane tag index roll low high : Nat) :
    Carried.Statement (.tableWritePaper lane tag index roll low high) :=
  carried_of_some rfl And.left rfl (fun _ => Nat.zero_le _)

theorem Carried.tableWriteJournal (lane tag index watermark wait autoOn auto : Nat) :
    Carried.Statement (.tableWriteJournal lane tag index watermark wait autoOn auto) :=
  carried_of_some rfl And.left rfl (fun _ => Nat.zero_le _)

theorem Carried.tableWriteTimers (lane tag index awaitCard inactivity window hold : Nat) :
    Carried.Statement (.tableWriteTimers lane tag index awaitCard inactivity window hold) :=
  carried_of_some rfl And.left rfl (fun _ => Nat.zero_le _)

theorem Carried.tableWriteNoticeModes (lane tag index mode : Nat) :
    Carried.Statement (.tableWriteNoticeModes lane tag index mode) :=
  carried_of_some rfl And.left rfl (fun _ => Nat.zero_le _)

theorem Carried.tableRead (lane tag table index : Nat) : Carried.Statement (.tableRead lane tag table index) :=
  carried_of_some rfl And.left rfl (fun _ => Nat.zero_le _)

theorem Carried.saleOpen (lane tag : Nat) (o : SaleOperands) : Carried.Statement (.saleOpen lane tag o) :=
  carried_of_some rfl And.left rfl (fun h => by have := h.2.2.2.2.2.2.2.2.2; simp only [Machine.requestSize, Machine.linesSize]; omega)

theorem Carried.saleCancel (lane tag : Nat) : Carried.Statement (.saleCancel lane tag) :=
  carried_of_some rfl id rfl (fun _ => Nat.zero_le _)

theorem Carried.cardRead (lane tag : Nat) : Carried.Statement (.cardRead lane tag) :=
  carried_of_some rfl id rfl (fun _ => Nat.zero_le _)

theorem Carried.laneRestore (lane tag : Nat) : Carried.Statement (.laneRestore lane tag) :=
  carried_of_some rfl id rfl (fun _ => Nat.zero_le _)

theorem Carried.coinInhibit (lane tag : Nat) (denoms : List Nat) : Carried.Statement (.coinInhibit lane tag denoms) :=
  carried_of_some rfl And.left rfl (fun h => by have := h.2.2; simp only [Machine.requestSize]; omega)

theorem Carried.coinAuditOn (lane tag : Nat) : Carried.Statement (.coinAuditOn lane tag) :=
  carried_of_some rfl id rfl (fun _ => Nat.zero_le _)

theorem Carried.coinAuditOff (lane tag : Nat) : Carried.Statement (.coinAuditOff lane tag) :=
  carried_of_some rfl id rfl (fun _ => Nat.zero_le _)

theorem Carried.tubeRead (lane tag : Nat) : Carried.Statement (.tubeRead lane tag) :=
  carried_of_some rfl id rfl (fun _ => Nat.zero_le _)

theorem Carried.tubeSet (lane tag tube count : Nat) : Carried.Statement (.tubeSet lane tag tube count) :=
  carried_of_some rfl And.left rfl (fun _ => Nat.zero_le _)

theorem Carried.tubeDump (lane tag tube coins : Nat) : Carried.Statement (.tubeDump lane tag tube coins) :=
  carried_of_some rfl And.left rfl (fun _ => Nat.zero_le _)

theorem Carried.recoveryList (lane tag first n : Nat) : Carried.Statement (.recoveryList lane tag first n) :=
  carried_of_some rfl And.left rfl (fun _ => Nat.zero_le _)

theorem Carried.recoveryDrop (lane tag n : Nat) : Carried.Statement (.recoveryDrop lane tag n) :=
  carried_of_some rfl And.left rfl (fun _ => Nat.zero_le _)

theorem Carried.paperLoaded (lane tag : Nat) : Carried.Statement (.paperLoaded lane tag) :=
  carried_of_some rfl id rfl (fun _ => Nat.zero_le _)

theorem Carried.printText (lane tag : Nat) (lines : List (List Byte)) :
    Carried.Statement (.printText lane tag lines) :=
  carried_of_some rfl And.left rfl (fun h => by have := h.2; simp only [Machine.requestSize, Machine.linesSize]; omega)

theorem Carried.printCancel (lane tag job : Nat) : Carried.Statement (.printCancel lane tag job) :=
  carried_of_some rfl And.left rfl (fun _ => Nat.zero_le _)

theorem Carried.printList (lane tag : Nat) : Carried.Statement (.printList lane tag) :=
  carried_of_some rfl id rfl (fun _ => Nat.zero_le _)

theorem Carried.busRead (lane tag : Nat) : Carried.Statement (.busRead lane tag) :=
  carried_of_some rfl id rfl (fun _ => Nat.zero_le _)

theorem Carried.journalRead (lane tag offset n : Nat) : Carried.Statement (.journalRead lane tag offset n) :=
  carried_of_some rfl And.left rfl (fun _ => Nat.zero_le _)

theorem Carried.journalRelease (lane tag first n : Nat) : Carried.Statement (.journalRelease lane tag first n) :=
  carried_of_some rfl And.left rfl (fun _ => Nat.zero_le _)

theorem Carried.totalsRead (lane tag set section_ row : Nat) :
    Carried.Statement (.totalsRead lane tag set section_ row) :=
  carried_of_some rfl And.left rfl (fun _ => Nat.zero_le _)

theorem Carried.totalsSnapshot (lane tag : Nat) : Carried.Statement (.totalsSnapshot lane tag) :=
  carried_of_some rfl id rfl (fun _ => Nat.zero_le _)

theorem Carried.unknownRequest (lane tag code : Nat) (body : List Byte) :
    Carried.Statement (.unknownRequest lane tag code body) :=
  carried_of_none rfl

theorem Carried.hostByte (byte : Byte) (framingError : Bool) : Carried.Statement (.hostByte byte framingError) :=
  carried_of_none rfl

theorem Carried.receiveTimeout : Carried.Statement .receiveTimeout :=
  carried_of_none rfl

theorem Carried.transmitEnd : Carried.Statement .transmitEnd :=
  carried_of_none rfl

theorem Carried.coinRecord (lane : Lane) (diam thick cond cls : Nat) (good : Bool) :
    Carried.Statement (.coinRecord lane diam thick cond cls good) :=
  carried_of_none rfl

theorem Carried.statusRecord (lane : Lane) (blocked fault : Bool) :
    Carried.Statement (.statusRecord lane blocked fault) :=
  carried_of_none rfl

theorem Carried.headLinkTimeout (lane : Lane) : Carried.Statement (.headLinkTimeout lane) :=
  carried_of_none rfl

theorem Carried.jamTimerExpiry (lane : Lane) : Carried.Statement (.jamTimerExpiry lane) :=
  carried_of_none rfl

theorem Carried.jamClearTimerExpiry (lane : Lane) : Carried.Statement (.jamClearTimerExpiry lane) :=
  carried_of_none rfl

theorem Carried.cashboxRemoved : Carried.Statement .cashboxRemoved :=
  carried_of_none rfl

theorem Carried.cashboxReplaced : Carried.Statement .cashboxReplaced :=
  carried_of_none rfl

theorem Carried.escrowReleaseEntry (lane : Lane) : Carried.Statement (.escrowReleaseEntry lane) :=
  carried_of_none rfl

theorem Carried.escrowReturnComplete (lane : Lane) : Carried.Statement (.escrowReturnComplete lane) :=
  carried_of_none rfl

theorem Carried.awaitCardTimeout (lane : Lane) : Carried.Statement (.awaitCardTimeout lane) :=
  carried_of_none rfl

theorem Carried.inactivityTimeout (lane : Lane) : Carried.Statement (.inactivityTimeout lane) :=
  carried_of_none rfl

theorem Carried.preWriteWindowExpiry (lane : Lane) : Carried.Statement (.preWriteWindowExpiry lane) :=
  carried_of_none rfl

theorem Carried.inDoubtWindowExpiry (lane : Lane) : Carried.Statement (.inDoubtWindowExpiry lane) :=
  carried_of_none rfl

theorem Carried.enquiryTimeout (lane : Lane) : Carried.Statement (.enquiryTimeout lane) :=
  carried_of_none rfl

theorem Carried.cardPollTimer (lane : Lane) : Carried.Statement (.cardPollTimer lane) :=
  carried_of_none rfl

theorem Carried.requestSent : Carried.Statement .requestSent :=
  carried_of_none rfl

theorem Carried.readyLow : Carried.Statement .readyLow :=
  carried_of_none rfl

theorem Carried.readyRise : Carried.Statement .readyRise :=
  carried_of_none rfl

theorem Carried.responseDeadline : Carried.Statement .responseDeadline :=
  carried_of_none rfl

theorem Carried.responseReceived (bytes : List Byte) : Carried.Statement (.responseReceived bytes) :=
  carried_of_none rfl

theorem Carried.printerStatusTimer : Carried.Statement .printerStatusTimer :=
  carried_of_none rfl

theorem Carried.ticketHoldExpiry : Carried.Statement .ticketHoldExpiry :=
  carried_of_none rfl

theorem Carried.payoutSensorConfirm : Carried.Statement .payoutSensorConfirm :=
  carried_of_none rfl

theorem Carried.payoutWaitExpiry : Carried.Statement .payoutWaitExpiry :=
  carried_of_none rfl

theorem Carried.waitTimerExpiry : Carried.Statement .waitTimerExpiry :=
  carried_of_none rfl

theorem Carried.clockSecond : Carried.Statement .clockSecond :=
  carried_of_none rfl

theorem Carried.dayChange : Carried.Statement .dayChange :=
  carried_of_none rfl

theorem Carried.recoveryExpiryRetry : Carried.Statement .recoveryExpiryRetry :=
  carried_of_none rfl

theorem Carried.autoSnapshotDue : Carried.Statement .autoSnapshotDue :=
  carried_of_none rfl

theorem Carried.autoSnapshotRetry : Carried.Statement .autoSnapshotRetry :=
  carried_of_none rfl

theorem Carried.powerOn (p : PowerOnInputs) : Carried.Statement (.powerOn p) :=
  carried_of_none rfl

theorem Carried.startupEnd (warningAsserted : Bool) : Carried.Statement (.startupEnd warningAsserted) :=
  carried_of_none rfl

theorem Carried.powerWarning : Carried.Statement .powerWarning :=
  carried_of_none rfl

theorem Carried.quiescedEntry : Carried.Statement .quiescedEntry :=
  carried_of_none rfl

end Sys2Proof.Laws
end

