-- ==== Sys2Proof/Tests/Slice0.lean ====
section
/-! SUPPORT. The model's own tests. Expected values come from the spec's worked cases and tables (named in each comment),
never from the model's answer. The witnesses show states and operands that meet the hypotheses of each statement, clause by
clause, at boundary values. -/

namespace Sys2Proof.Tests

open Sys2Proof.Machine

-- The kernel evaluates these theorems one after another: side by side they would start more threads than memory holds.
set_option Elab.async false

/-! ## Fixtures -/

/-- The state after a command. -/
def next (c : Instr) (s : State) : State :=
  match exec c s with
  | .next t => t
  | .fault _ => s
  | .refused _ => s

/-- Index 0: SINGLE 310, id 1. Index 1: the weekly pass of section 2.6, id 31. Index 2: TOPUP of 500 to 5,000, id 40.
Index 3: a SINGLE of price 0, id 50. -/
def products : List (Option Product) :=
  [some ⟨1, .single, 310, 0, 1, 5, false, 0, 0, 0, 0⟩, some ⟨31, .pass, 1200, 480, 1, 5, false, 2000, 7, 0, 0⟩,
    some ⟨40, .topup, 0, 0, 1, 1, false, 0, 0, 500, 5000⟩, some ⟨50, .single, 0, 0, 1, 5, false, 0, 0, 0, 0⟩] ++
  List.replicate 44 none

def tariff : Tariff :=
  { Tariff.default with
    products := products, tiers := [some ⟨2000, 500⟩, none, none, none], unit := 10, mask := ⟨true, true, true, true, true⟩ }

/-- A 50 mu coin for tube 1, a 200 mu coin for the cashbox, a slug. -/
def coin50 : AcceptFields := ⟨1, 500, 520, 0, 99, 0, 99, 0, 0, 3, 50, 1, 1⟩
def coin200 : AcceptFields := ⟨1, 600, 620, 0, 99, 0, 99, 0, 0, 3, 200, 2, 0⟩
def slugCode : AcceptFields := ⟨2, 0, 0, 0, 0, 0, 0, 17, 63, 3, 0, 3, 0⟩

/-- Tube 1 holds 50 mu coins and tube 2 holds 20 mu coins. -/
def tubes : PerTube Tube :=
  ⟨⟨50, 60, 2, 6, 10, 0, false⟩, ⟨20, 60, 2, 6, 10, 0, false⟩, .unused 0, .unused 0, .unused 0, .unused 0⟩

/-- A part in use with both lanes idle, nothing to send and the printer READY. -/
def up : State :=
  { State.reset with
    part := .inUse
    tablesCleared := false
    financialLost := false
    clk := ⟨true, 20300, 61200, true⟩
    saleSeq := 41
    fcu := tariff
    ciu := { State.reset.ciu with accept := [coin50, coin200, slugCode] ++ List.replicate 29 acceptDisabled }
    chu := { State.reset.chu with tubes := tubes }
    pru := { State.reset.pru with
      printer := .ready, paper := some .present, cover := some .closed, hold := .stopped, linesRemaining := 4000
      paperLow := false, use := none }
    dbc := Dbc.start
    lki := { State.reset.lki with tx := none, notices := [], conds := [], raised := [] }
    drives := [] }

/-- The same part in another part state. -/
def inPart (p : PartState) : State := { up with part := p }

def inService : State := inPart .service

/-- `n` power records from sequence `first` on. -/
def records (first n : Nat) : List Record :=
  (List.range n).map fun i => ⟨first + i, 0, none, .power .reset ⟨false, false, false, false⟩ 0⟩

/-- A journal of `n` records that starts at sequence `first`. -/
def withJournal (first n : Nat) (s : State) : State :=
  { s with jnu := { s.jnu with journal := records first n, recSeq := first + n, waitTimer := .running 300 } }

/-- Something already on the line, so that notices queue. -/
def busyLine (s : State) : State := { s with lki := { s.lki with tx := some (.notice .quiesced) } }

/-- The sale of a 310 mu ticket, opened at the clock's second. -/
def sale : Sale where
  seq := 41
  product := 1
  kind := .single
  zonesAsked := 1
  zonesPriced := 1
  quantity := 1
  concession := 0
  delivery := .paper
  payment := .coins
  topup := 0
  receipt := false
  receiptLines := []
  price := some 310
  conds := .none
  coinsReceived := 0
  committed := 0
  serial := none
  slot := none
  entryNo := none
  entryAttached := false
  waitKind := none
  refundOutcome := none
  changePaid := 0
  refundPaid := 0
  shortfall := 0
  escrowReturned := 0
  corrections := []
  opened := some ⟨20300, 61200⟩
  journalRes := 2
  ticketSlot := false
  recoveryRes := false
  verified := false
  bound := false
  validity := none
  purse := 0
  bonus := 0

/-- A lane with an open sale, its timer, its tray and what the CIU does with it, its retained copy as R26 has it. -/
def withSale (l : Lane) (st : LaneState) (timer : Option Nat) (tray : List TrayEntry) (op : TrayOp) (x : Sale)
    (s : State) : State :=
  (s.setCoin l { s.coin l with tray := tray, trayOp := op }).setLane l
    { s.lane l with state := st, timer := timer, sale := some x, snapshot := some ⟨x, st, tray⟩ }

/-- A serial whose last byte is `n`. -/
def serial (n : Nat) : Serial := List.replicate 6 0 ++ be 1 n

/-- A DETACHED or ATTACHED recovery entry of day 20,300: expected counter 58, balance 6,100, credit 2,100 (section 6.6). -/
def entry (n : Nat) (attached : Bool) : CrtEntry :=
  ⟨serial n, .a, .topup, 58, 6100, 20300, 2100, none, 7, some ⟨20300, 61200⟩, attached, false, false⟩

/-- One recovery entry, in place `n`. -/
def withEntry (n : Nat) (e : CrtEntry) (s : State) : State :=
  { s with crt := { s.crt with entries := (List.replicate 16 none).set n (some e) } }

/-- A queued or printing job of 12 blank lines. -/
def job (id : Nat) (k : JobKind) (printed : Nat) (printing : Bool) : Job :=
  ⟨id, k, if k = .service then none else some .a, 41, List.replicate 12 [], printed, id, printing, false⟩

/-- A device's exchange in a phase. -/
def exchanging (d : Dev) (r : BusReq) (p : BusPhase) (low : Bool) (s : State) : State :=
  { s with dbc := { s.dbc with current := some ⟨d, r, p, none, low⟩ } }

/-- A bus response: length, status, data and check byte (R158, section 12.5). -/
def response (status : Byte) (data : List Byte) : List Byte :=
  withBusCheck (be 1 (data.length + 2) ++ [status] ++ data)

/-- The reply on the line, or ready. -/
def replyOf (s : State) : Option (Status × List Byte) :=
  match s.lki.tx with
  | some (.reply r) => some (r.status, r.body)
  | _ => s.lki.ready.map fun r => (r.status, r.body)

/-! ### Checks that `decide` can run -/

/-- `State.Settled` as a check. -/
def settledCheck (s : State) : Bool :=
  ([Lane.a, .b].all fun l =>
    (if s.scanWanted l then (s.session l).purpose ≠ .none || (s.session l).res ≠ none
     else !((s.lane l).state = .idle && (s.session l).purpose = .idleScan && (s.session l).res = none)) &&
    (s.lane l).snapshot = (s.lane l).sale.map fun x => ⟨x, (s.lane l).state, (s.coin l).tray⟩) &&
  (s.lki.tx ≠ none || (s.lki.ready = none && s.lki.notices = []))

theorem settled_of_check {s : State} (h : settledCheck s = true) : s.Settled := by
  have key : ∀ l, ((if s.scanWanted l then (s.session l).purpose ≠ .none || (s.session l).res ≠ none
     else !((s.lane l).state = .idle && (s.session l).purpose = .idleScan && (s.session l).res = none)) &&
    decide ((s.lane l).snapshot = (s.lane l).sale.map fun x => ⟨x, (s.lane l).state, (s.coin l).tray⟩)) = true := by
    intro l
    simp only [settledCheck, List.all_cons, List.all_nil, Bool.and_true, Bool.and_eq_true] at h ⊢
    cases l
    · exact h.1.1
    · exact h.1.2
  refine ⟨fun l => ⟨fun hw => ?_, fun hw => ?_⟩, fun l => ?_, fun ht => ?_⟩
  · have k := key l
    simp only [hw, if_true, Bool.and_eq_true, Bool.or_eq_true, decide_eq_true_eq] at k
    exact k.1
  · have k := key l
    simp only [hw, Bool.false_eq_true, if_false, Bool.and_eq_true, Bool.not_eq_true', Bool.and_eq_false_iff,
      decide_eq_false_iff_not] at k
    rcases k.1 with (k | k) | k <;> simp [k]
  · have k := key l
    simp only [Bool.and_eq_true, decide_eq_true_eq] at k
    exact k.2
  · simp only [settledCheck, Bool.and_eq_true, Bool.or_eq_true, decide_eq_true_eq] at h
    rcases h.2 with k | k
    · exact absurd ht k
    · exact k

/-- A settled state with a further decidable property. -/
theorem both {s : State} {p : Prop} [Decidable p] (h : (settledCheck s && decide p) = true) : s.Settled ∧ p := by
  rw [Bool.and_eq_true, decide_eq_true_eq] at h
  exact ⟨settled_of_check h.1, h.2⟩

/-- `State.Admits` as a check. -/
theorem admits_of_check {s : State} {l : Lane} {o : SaleOperands} {p : Product}
    (h : operandsCoded o = true ∧ s.part = .inUse ∧ (s.lane l).state = .idle ∧ (s.coin l).audit = false ∧
      s.fcu.find o.product = some p ∧ combines p.kind (Delivery.ofCode o.delivery) (Payment.ofCode o.payment) = true ∧
      s.fcu.inRange p o.zones o.quantity o.concession o.topup = true ∧
      (s.level l).permits (Delivery.ofCode o.delivery) (Payment.ofCode o.payment) = true ∧ s.clk.set = true ∧
      s.stored + s.held + 2 ≤ 60 ∧ (Delivery.ofCode o.delivery = .paper → s.pru.canReserve = true) ∧
      (Delivery.ofCode o.delivery = .card → s.crt.count + s.crt.reservations < 16)) : s.Admits l o p := by
  obtain ⟨a, b, c, d, e, f, g, i, j, k, m, n⟩ := h
  exact ⟨a, b, c, d, e, f, g, i, j, k, m, n⟩

theorem test_up_settled : up.Settled := settled_of_check (by decide +kernel)

/-! ## Fare calculation (section 2.6) -/

def testTariff (mode : Rounding) (mask : PriceConds) : Tariff :=
  { Tariff.default with
    unit := 10, mode := mode, mask := mask
    bands := [some ⟨36000, 50000, 8500⟩, some ⟨60000, 70000, 11500⟩, none, none]
    classes := [⟨0, false, false, false, false⟩, ⟨0, false, false, false, false⟩, ⟨5000, true, true, true, false⟩,
      ⟨2500, true, false, false, false⟩] ++ List.replicate 4 ⟨0, false, false, false, false⟩ }

def factoryMask : PriceConds := ⟨true, true, true, false, false⟩
def childSingle : Product := ⟨1, .single, 240, 60, 2, 8, true, 0, 0, 0, 0⟩
def tieSingle : Product := ⟨1, .single, 185, 60, 2, 8, false, 0, 0, 0, 0⟩
def weekly : Product := ⟨31, .pass, 1200, 480, 1, 6, false, 2000, 7, 0, 0⟩
def peakSingle : Product := ⟨1, .single, 300, 75, 1, 6, true, 500, 0, 0, 0⟩

/-- "A child single off-peak": 310 under NEAREST_EVEN, UP and NEAREST_UP, 300 under DOWN, each {INEXACT} (2). -/
theorem test_price_child_single :
    ((testTariff .nearestEven factoryMask).priceTicket childSingle 4 2 2 40000 0) = .priced ⟨310, .ofByte 2, 4, none, 0, none⟩ ∧
    ((testTariff .down factoryMask).priceTicket childSingle 4 2 2 40000 0) = .priced ⟨300, .ofByte 2, 4, none, 0, none⟩ ∧
    ((testTariff .up factoryMask).priceTicket childSingle 4 2 2 40000 0) = .priced ⟨310, .ofByte 2, 4, none, 0, none⟩ ∧
    ((testTariff .nearestUp factoryMask).priceTicket childSingle 4 2 2 40000 0) = .priced ⟨310, .ofByte 2, 4, none, 0, none⟩ ∧
    ((testTariff .up { factoryMask with inexact := false }).priceTicket childSingle 4 2 2 40000 0) =
      .refused .inexact (.ofByte 2) := by decide +kernel

/-- "A tie": 300, 310, 300 and 310 under the four modes; with U = 5 the price is 305 and exact. -/
theorem test_price_tie :
    ([.nearestEven, .nearestUp, .down, .up].map fun m =>
      ((testTariff m factoryMask).priceTicket tieSingle 4 1 0 0 0)) =
      [.priced ⟨300, .ofByte 2, 4, none, 0, none⟩, .priced ⟨310, .ofByte 2, 4, none, 0, none⟩, .priced ⟨300, .ofByte 2, 4, none, 0, none⟩, .priced ⟨310, .ofByte 2, 4, none, 0, none⟩] ∧
    ({ testTariff .down factoryMask with unit := 5 }.priceTicket tieSingle 4 1 0 0 0) =
      .priced ⟨305, .ofByte 0, 4, none, 0, none⟩ := by decide +kernel

/-- "A weekly pass at its ceiling": 2,000 with OVER_CEILING (4), valid 20,110 to 20,116. -/
theorem test_price_weekly_pass :
    ((testTariff .nearestEven factoryMask).priceTicket weekly 3 1 0 0 20110) =
      .priced ⟨2000, .ofByte 4, 3, some (20110, 20116), 0, none⟩ ∧
    ((testTariff .nearestEven { factoryMask with overCeiling := false }).priceTicket weekly 3 1 0 0 20110) =
      .refused .overCeiling (.ofByte 4) := by decide +kernel

/-- "Three conditions and the refusal order": 500 with all three; unmasking ZONE_RANGE refuses with it alone. -/
theorem test_price_three_conditions :
    ((testTariff .nearestEven factoryMask).priceTicket peakSingle 9 1 3 65000 0) = .priced ⟨500, .ofByte 7, 6, none, 0, none⟩ ∧
    ((testTariff .nearestEven { factoryMask with zoneRange := false }).priceTicket peakSingle 9 1 3 65000 0) =
      .refused .zoneRange (.ofByte 1) := by decide +kernel

/-- A balance of 18,400 with Bmax 20,000 holds a top-up of 1,600 of the 2,000 asked (section 2.6). -/
theorem test_topup_limit :
    { testTariff .nearestEven { factoryMask with topupLimit := true } with
      tiers := [some ⟨2000, 500⟩, none, none, none] }.priceTopup
        ⟨40, .topup, 0, 0, 1, 1, false, 0, 0, 500, 5000⟩ 1 2000 18400 =
      .priced ⟨1600, .ofByte 16, 1, none, 0, some 20000⟩ := by decide +kernel

/-- Tiers 1,000 at 5 % and 2,000 at 1 %: the bonuses of 2,350, 1,990 and 2,000 are 20, 90 and 20 (section 2.6). -/
theorem test_topup_bonus :
    ([2350, 1990, 2000].map { testTariff .down factoryMask with tiers := [some ⟨1000, 500⟩, some ⟨2000, 100⟩, none, none] }.bonus)
      = [20, 90, 20] := by decide +kernel

/-! ## Payout plans (section 4.3) -/

/-- "Worked plan cases": 60 by 50 + 10, without the 10 by three 20s, 30 not at all but 20 of it, 470 by four coins. -/
theorem test_plan_cases :
    planFor [⟨.t1, 200, 3⟩, ⟨.t2, 50, 4⟩, ⟨.t3, 20, 10⟩, ⟨.t4, 10, 1⟩] 60 15 = some [(.t2, 1), (.t4, 1)] ∧
    planFor [⟨.t1, 200, 3⟩, ⟨.t2, 50, 4⟩, ⟨.t3, 20, 10⟩, ⟨.t4, 10, 0⟩] 60 15 = some [(.t3, 3)] ∧
    planFor [⟨.t1, 200, 3⟩, ⟨.t2, 50, 4⟩, ⟨.t3, 20, 10⟩, ⟨.t4, 10, 0⟩] 30 15 = none ∧
    bestPartial [⟨.t1, 200, 3⟩, ⟨.t2, 50, 4⟩, ⟨.t3, 20, 10⟩, ⟨.t4, 10, 0⟩] 30 15 = (20, [(.t3, 1)]) ∧
    planFor [⟨.t1, 200, 3⟩, ⟨.t2, 50, 4⟩, ⟨.t3, 20, 10⟩, ⟨.t4, 10, 1⟩] 470 15 = some [(.t1, 2), (.t2, 1), (.t3, 1)] := by
  decide +kernel

/-- Ties between denominations and between tubes of one denomination, and the budget (section 4.3). -/
theorem test_plan_ties_and_budget :
    planFor [⟨.t1, 50, 4⟩, ⟨.t2, 30, 4⟩, ⟨.t3, 10, 4⟩] 60 15 = some [(.t1, 1), (.t3, 1)] ∧
    planFor [⟨.t2, 20, 2⟩, ⟨.t5, 20, 4⟩] 60 15 = some [(.t2, 2), (.t5, 1)] ∧
    planFor [⟨.t1, 20, 20⟩] 300 15 = some [(.t1, 15)] ∧ planFor [⟨.t1, 20, 20⟩] 320 15 = none ∧
    bestPartial [⟨.t1, 20, 20⟩] 320 15 = (300, [(.t1, 15)]) := by decide +kernel

/-! ## Cards and frames -/

/-- A card of seven blocks with the two purse copies given and empty slots. -/
def card (a b : Block) : List Block :=
  [withCheck (serial 7 ++ List.replicate 8 0), a, b, emptyBlock, emptyBlock, emptyBlock, emptyBlock]

def badBlock : Block := (purseBlock 3250 41 .a 0).set 15 0

/-- "Tag and slot examples" (section 5.1), one row each. -/
theorem test_purse_views :
    purseView (card (purseBlock 3250 41 .a 0) (purseBlock 1250 40 .a 0)) = ⟨some 3250, some 41, some 2, false⟩ ∧
    purseView (card (purseBlock 900 12 .a 0) (purseBlock 900 12 .a 0)) = ⟨some 900, some 12, some 2, false⟩ ∧
    purseView (card badBlock (purseBlock 5000 7 .a 0)) = ⟨some 5000, some 7, some 1, false⟩ ∧
    purseView (card emptyBlock emptyBlock) = ⟨some 0, some 0, some 1, true⟩ ∧
    purseView (card badBlock emptyBlock) = ⟨none, none, none, false⟩ := by decide +kernel

/-- On the first card of the table a slot stamped 41 is CONFIRMED and one stamped 42 UNCONFIRMED; on the last card
every well-formed slot is UNDETERMINED. -/
theorem test_slot_states :
    slotState ((card (purseBlock 3250 41 .a 0) (purseBlock 1250 40 .a 0)).set 3 (slotBlock ⟨31, 3, 1, 2, 41⟩)) 0 = .confirmed ∧
    slotState ((card (purseBlock 3250 41 .a 0) (purseBlock 1250 40 .a 0)).set 4 (slotBlock ⟨31, 3, 1, 2, 42⟩)) 1 =
      .unconfirmed ∧
    slotState ((card badBlock emptyBlock).set 6 (slotBlock ⟨31, 3, 1, 2, 41⟩)) 3 = .undetermined := by decide +kernel

/-- Over the nine characters 1 to 9 the CRC-16 is 0x29B1 (R208). -/
theorem test_crc16 : crc16 ((List.range 9).map fun i => BitVec.ofNat 8 (0x31 + i)) = 0x29B1 := by decide +kernel

/-- A purse image and a bus frame sum to their check sums, 0xA5 and 0x5A (sections 12.4, 12.5). -/
theorem test_check_bytes :
    byteSum (purseBlock 6100 58 .a 20300) = 0xA5 ∧ (purseBlock 6100 58 .a 20300).length = 16 ∧
    byteSum (BusReq.frame (.blockWrite 2 emptyBlock)) = 0x5A ∧ (BusReq.frame (.blockWrite 2 emptyBlock)).length = 19 := by
  decide +kernel

/-- Section 12.1: the fields of a slot that is not well-formed are absent, with a presence byte where 0 is a value. -/
theorem test_absent_slot_fields :
    slotImageBytes none = [0, 0, 0, 0, 0, 0, 0, 0, 0, 0, 0] ∧
    slotImageBytes (some ⟨31, 3, 1, 2, 41⟩) = [31, 3, 1, 0, 1, 1, 0, 2, 1, 0, 41] := by decide +kernel

/-- R147: a PRINT notice lists the lane between the kind and the sale sequence. -/
theorem test_print_notice_body :
    Notice.body (.print (some 5) .ticket (some .b) 41 .printed 12 12) = [5, 1, 2, 0, 0, 0, 41, 1, 12, 12] := by
  decide +kernel

/-! ## Well-formedness: for each check a well-formed command and one that it refuses -/

theorem test_wf_plain_requests :
    Instr.wf (.status 0 0) ∧ ¬ Instr.wf (.status 256 0) ∧ ¬ Instr.wf (.status 0 256) ∧ Instr.wf (.identify 0 0) ∧
    ¬ Instr.wf (.identify 256 0) ∧ ¬ Instr.wf (.identify 0 256) ∧ Instr.wf (.resetWithForce 0 0) ∧
    ¬ Instr.wf (.resetWithForce 256 0) ∧ ¬ Instr.wf (.resetWithForce 0 256) ∧ Instr.wf (.resetWithoutForce 0 0) ∧
    ¬ Instr.wf (.resetWithoutForce 256 0) ∧ ¬ Instr.wf (.resetWithoutForce 0 256) ∧ Instr.wf (.shutdown 0 0) ∧
    ¬ Instr.wf (.shutdown 256 0) ∧ ¬ Instr.wf (.shutdown 0 256) ∧ Instr.wf (.serviceEnter 0 0) ∧
    ¬ Instr.wf (.serviceEnter 256 0) ∧ ¬ Instr.wf (.serviceEnter 0 256) ∧ Instr.wf (.serviceLeave 0 0) ∧
    ¬ Instr.wf (.serviceLeave 256 0) ∧ ¬ Instr.wf (.serviceLeave 0 256) ∧ Instr.wf (.saleCancel 0 0) ∧
    ¬ Instr.wf (.saleCancel 256 0) ∧ ¬ Instr.wf (.saleCancel 0 256) ∧ Instr.wf (.cardRead 0 0) ∧
    ¬ Instr.wf (.cardRead 256 0) ∧ ¬ Instr.wf (.cardRead 0 256) ∧ Instr.wf (.laneRestore 0 0) ∧
    ¬ Instr.wf (.laneRestore 256 0) ∧ ¬ Instr.wf (.laneRestore 0 256) ∧ Instr.wf (.coinAuditOn 0 0) ∧
    ¬ Instr.wf (.coinAuditOn 256 0) ∧ ¬ Instr.wf (.coinAuditOn 0 256) ∧ Instr.wf (.coinAuditOff 0 0) ∧
    ¬ Instr.wf (.coinAuditOff 256 0) ∧ ¬ Instr.wf (.coinAuditOff 0 256) ∧ Instr.wf (.tubeRead 0 0) ∧
    ¬ Instr.wf (.tubeRead 256 0) ∧ ¬ Instr.wf (.tubeRead 0 256) ∧ Instr.wf (.paperLoaded 0 0) ∧
    ¬ Instr.wf (.paperLoaded 256 0) ∧ ¬ Instr.wf (.paperLoaded 0 256) ∧ Instr.wf (.printList 0 0) ∧
    ¬ Instr.wf (.printList 256 0) ∧ ¬ Instr.wf (.printList 0 256) ∧ Instr.wf (.busRead 0 0) ∧
    ¬ Instr.wf (.busRead 256 0) ∧ ¬ Instr.wf (.busRead 0 256) ∧ Instr.wf (.totalsSnapshot 0 0) ∧
    ¬ Instr.wf (.totalsSnapshot 256 0) ∧ ¬ Instr.wf (.totalsSnapshot 0 256) := by
  (repeat' apply And.intro) <;> decide +kernel

theorem test_wf_settings :
    Instr.wf (.clockSet 0 0 0 0) ∧ ¬ Instr.wf (.clockSet 256 0 0 0) ∧ ¬ Instr.wf (.clockSet 0 256 0 0) ∧
    ¬ Instr.wf (.clockSet 0 0 65536 0) ∧ ¬ Instr.wf (.clockSet 0 0 0 16777216) ∧
    Instr.wf (.tableWriteProduct 0 0 0 ⟨0, 0, 0, 0, 0, 0, 0, 0, 0, 0, 0⟩) ∧
    ¬ Instr.wf (.tableWriteProduct 256 0 0 ⟨0, 0, 0, 0, 0, 0, 0, 0, 0, 0, 0⟩) ∧
    ¬ Instr.wf (.tableWriteProduct 0 256 0 ⟨0, 0, 0, 0, 0, 0, 0, 0, 0, 0, 0⟩) ∧
    ¬ Instr.wf (.tableWriteProduct 0 0 256 ⟨0, 0, 0, 0, 0, 0, 0, 0, 0, 0, 0⟩) ∧
    ¬ Instr.wf (.tableWriteProduct 0 0 0 ⟨256, 0, 0, 0, 0, 0, 0, 0, 0, 0, 0⟩) ∧
    ¬ Instr.wf (.tableWriteProduct 0 0 0 ⟨0, 256, 0, 0, 0, 0, 0, 0, 0, 0, 0⟩) ∧
    ¬ Instr.wf (.tableWriteProduct 0 0 0 ⟨0, 0, 4294967296, 0, 0, 0, 0, 0, 0, 0, 0⟩) ∧
    ¬ Instr.wf (.tableWriteProduct 0 0 0 ⟨0, 0, 0, 4294967296, 0, 0, 0, 0, 0, 0, 0⟩) ∧
    ¬ Instr.wf (.tableWriteProduct 0 0 0 ⟨0, 0, 0, 0, 256, 0, 0, 0, 0, 0, 0⟩) ∧
    ¬ Instr.wf (.tableWriteProduct 0 0 0 ⟨0, 0, 0, 0, 0, 256, 0, 0, 0, 0, 0⟩) ∧
    ¬ Instr.wf (.tableWriteProduct 0 0 0 ⟨0, 0, 0, 0, 0, 0, 256, 0, 0, 0, 0⟩) ∧
    ¬ Instr.wf (.tableWriteProduct 0 0 0 ⟨0, 0, 0, 0, 0, 0, 0, 4294967296, 0, 0, 0⟩) ∧
    ¬ Instr.wf (.tableWriteProduct 0 0 0 ⟨0, 0, 0, 0, 0, 0, 0, 0, 65536, 0, 0⟩) ∧
    ¬ Instr.wf (.tableWriteProduct 0 0 0 ⟨0, 0, 0, 0, 0, 0, 0, 0, 0, 4294967296, 0⟩) ∧
    ¬ Instr.wf (.tableWriteProduct 0 0 0 ⟨0, 0, 0, 0, 0, 0, 0, 0, 0, 0, 4294967296⟩) ∧
    Instr.wf (.tableWriteConcession 0 0 0 0 0) ∧ ¬ Instr.wf (.tableWriteConcession 256 0 0 0 0) ∧
    ¬ Instr.wf (.tableWriteConcession 0 256 0 0 0) ∧ ¬ Instr.wf (.tableWriteConcession 0 0 256 0 0) ∧
    ¬ Instr.wf (.tableWriteConcession 0 0 0 65536 0) ∧ ¬ Instr.wf (.tableWriteConcession 0 0 0 0 256) ∧
    Instr.wf (.tableWriteBand 0 0 0 0 0 0 0) ∧ ¬ Instr.wf (.tableWriteBand 256 0 0 0 0 0 0) ∧
    ¬ Instr.wf (.tableWriteBand 0 256 0 0 0 0 0) ∧ ¬ Instr.wf (.tableWriteBand 0 0 256 0 0 0 0) ∧
    ¬ Instr.wf (.tableWriteBand 0 0 0 256 0 0 0) ∧ ¬ Instr.wf (.tableWriteBand 0 0 0 0 16777216 0 0) ∧
    ¬ Instr.wf (.tableWriteBand 0 0 0 0 0 16777216 0) ∧ ¬ Instr.wf (.tableWriteBand 0 0 0 0 0 0 65536) ∧
    Instr.wf (.tableWriteTier 0 0 0 0 0 0) ∧ ¬ Instr.wf (.tableWriteTier 256 0 0 0 0 0) ∧
    ¬ Instr.wf (.tableWriteTier 0 256 0 0 0 0) ∧ ¬ Instr.wf (.tableWriteTier 0 0 256 0 0 0) ∧
    ¬ Instr.wf (.tableWriteTier 0 0 0 256 0 0) ∧ ¬ Instr.wf (.tableWriteTier 0 0 0 0 4294967296 0) ∧
    ¬ Instr.wf (.tableWriteTier 0 0 0 0 0 65536) ∧ Instr.wf (.tableWriteGlobal 0 0 0 0 0 0 0) ∧
    ¬ Instr.wf (.tableWriteGlobal 256 0 0 0 0 0 0) ∧ ¬ Instr.wf (.tableWriteGlobal 0 256 0 0 0 0 0) ∧
    ¬ Instr.wf (.tableWriteGlobal 0 0 256 0 0 0 0) ∧ ¬ Instr.wf (.tableWriteGlobal 0 0 0 4294967296 0 0 0) ∧
    ¬ Instr.wf (.tableWriteGlobal 0 0 0 0 256 0 0) ∧ ¬ Instr.wf (.tableWriteGlobal 0 0 0 0 0 4294967296 0) ∧
    ¬ Instr.wf (.tableWriteGlobal 0 0 0 0 0 0 256) ∧
    Instr.wf (.tableWriteAcceptance 0 0 0 ⟨0, 0, 0, 0, 0, 0, 0, 0, 0, 0, 0, 0, 0⟩) ∧
    ¬ Instr.wf (.tableWriteAcceptance 256 0 0 ⟨0, 0, 0, 0, 0, 0, 0, 0, 0, 0, 0, 0, 0⟩) ∧
    ¬ Instr.wf (.tableWriteAcceptance 0 256 0 ⟨0, 0, 0, 0, 0, 0, 0, 0, 0, 0, 0, 0, 0⟩) ∧
    ¬ Instr.wf (.tableWriteAcceptance 0 0 256 ⟨0, 0, 0, 0, 0, 0, 0, 0, 0, 0, 0, 0, 0⟩) ∧
    ¬ Instr.wf (.tableWriteAcceptance 0 0 0 ⟨256, 0, 0, 0, 0, 0, 0, 0, 0, 0, 0, 0, 0⟩) ∧
    ¬ Instr.wf (.tableWriteAcceptance 0 0 0 ⟨0, 65536, 0, 0, 0, 0, 0, 0, 0, 0, 0, 0, 0⟩) ∧
    ¬ Instr.wf (.tableWriteAcceptance 0 0 0 ⟨0, 0, 65536, 0, 0, 0, 0, 0, 0, 0, 0, 0, 0⟩) ∧
    ¬ Instr.wf (.tableWriteAcceptance 0 0 0 ⟨0, 0, 0, 65536, 0, 0, 0, 0, 0, 0, 0, 0, 0⟩) ∧
    ¬ Instr.wf (.tableWriteAcceptance 0 0 0 ⟨0, 0, 0, 0, 65536, 0, 0, 0, 0, 0, 0, 0, 0⟩) ∧
    ¬ Instr.wf (.tableWriteAcceptance 0 0 0 ⟨0, 0, 0, 0, 0, 65536, 0, 0, 0, 0, 0, 0, 0⟩) ∧
    ¬ Instr.wf (.tableWriteAcceptance 0 0 0 ⟨0, 0, 0, 0, 0, 0, 65536, 0, 0, 0, 0, 0, 0⟩) ∧
    ¬ Instr.wf (.tableWriteAcceptance 0 0 0 ⟨0, 0, 0, 0, 0, 0, 0, 256, 0, 0, 0, 0, 0⟩) ∧
    ¬ Instr.wf (.tableWriteAcceptance 0 0 0 ⟨0, 0, 0, 0, 0, 0, 0, 0, 256, 0, 0, 0, 0⟩) ∧
    ¬ Instr.wf (.tableWriteAcceptance 0 0 0 ⟨0, 0, 0, 0, 0, 0, 0, 0, 0, 256, 0, 0, 0⟩) ∧
    ¬ Instr.wf (.tableWriteAcceptance 0 0 0 ⟨0, 0, 0, 0, 0, 0, 0, 0, 0, 0, 4294967296, 0, 0⟩) ∧
    ¬ Instr.wf (.tableWriteAcceptance 0 0 0 ⟨0, 0, 0, 0, 0, 0, 0, 0, 0, 0, 0, 256, 0⟩) ∧
    ¬ Instr.wf (.tableWriteAcceptance 0 0 0 ⟨0, 0, 0, 0, 0, 0, 0, 0, 0, 0, 0, 0, 256⟩) ∧
    Instr.wf (.tableWriteTube 0 0 0 0 0 0 0) ∧ ¬ Instr.wf (.tableWriteTube 256 0 0 0 0 0 0) ∧
    ¬ Instr.wf (.tableWriteTube 0 256 0 0 0 0 0) ∧ ¬ Instr.wf (.tableWriteTube 0 0 256 0 0 0 0) ∧
    ¬ Instr.wf (.tableWriteTube 0 0 0 4294967296 0 0 0) ∧ ¬ Instr.wf (.tableWriteTube 0 0 0 0 256 0 0) ∧
    ¬ Instr.wf (.tableWriteTube 0 0 0 0 0 256 0) ∧ ¬ Instr.wf (.tableWriteTube 0 0 0 0 0 0 256) ∧
    Instr.wf (.tableWriteCoinLimit 0 0 0 0) ∧ ¬ Instr.wf (.tableWriteCoinLimit 256 0 0 0) ∧
    ¬ Instr.wf (.tableWriteCoinLimit 0 256 0 0) ∧ ¬ Instr.wf (.tableWriteCoinLimit 0 0 256 0) ∧
    ¬ Instr.wf (.tableWriteCoinLimit 0 0 0 256) ∧ Instr.wf (.tableWritePaper 0 0 0 0 0 0) ∧
    ¬ Instr.wf (.tableWritePaper 256 0 0 0 0 0) ∧ ¬ Instr.wf (.tableWritePaper 0 256 0 0 0 0) ∧
    ¬ Instr.wf (.tableWritePaper 0 0 256 0 0 0) ∧ ¬ Instr.wf (.tableWritePaper 0 0 0 65536 0 0) ∧
    ¬ Instr.wf (.tableWritePaper 0 0 0 0 65536 0) ∧ ¬ Instr.wf (.tableWritePaper 0 0 0 0 0 65536) ∧
    Instr.wf (.tableWriteJournal 0 0 0 0 0 0 0) ∧ ¬ Instr.wf (.tableWriteJournal 256 0 0 0 0 0 0) ∧
    ¬ Instr.wf (.tableWriteJournal 0 256 0 0 0 0 0) ∧ ¬ Instr.wf (.tableWriteJournal 0 0 256 0 0 0 0) ∧
    ¬ Instr.wf (.tableWriteJournal 0 0 0 256 0 0 0) ∧ ¬ Instr.wf (.tableWriteJournal 0 0 0 0 65536 0 0) ∧
    ¬ Instr.wf (.tableWriteJournal 0 0 0 0 0 256 0) ∧ ¬ Instr.wf (.tableWriteJournal 0 0 0 0 0 0 16777216) ∧
    Instr.wf (.tableWriteTimers 0 0 0 0 0 0 0) ∧ ¬ Instr.wf (.tableWriteTimers 256 0 0 0 0 0 0) ∧
    ¬ Instr.wf (.tableWriteTimers 0 256 0 0 0 0 0) ∧ ¬ Instr.wf (.tableWriteTimers 0 0 256 0 0 0 0) ∧
    ¬ Instr.wf (.tableWriteTimers 0 0 0 256 0 0 0) ∧ ¬ Instr.wf (.tableWriteTimers 0 0 0 0 65536 0 0) ∧
    ¬ Instr.wf (.tableWriteTimers 0 0 0 0 0 256 0) ∧ ¬ Instr.wf (.tableWriteTimers 0 0 0 0 0 0 256) ∧
    Instr.wf (.tableWriteNoticeModes 0 0 0 0) ∧ ¬ Instr.wf (.tableWriteNoticeModes 256 0 0 0) ∧
    ¬ Instr.wf (.tableWriteNoticeModes 0 256 0 0) ∧ ¬ Instr.wf (.tableWriteNoticeModes 0 0 256 0) ∧
    ¬ Instr.wf (.tableWriteNoticeModes 0 0 0 256) := by
  (repeat' apply And.intro) <;> decide +kernel

theorem test_wf_requests_with_operands :
    Instr.wf (.tableRead 0 0 0 0) ∧ ¬ Instr.wf (.tableRead 256 0 0 0) ∧ ¬ Instr.wf (.tableRead 0 256 0 0) ∧
    ¬ Instr.wf (.tableRead 0 0 256 0) ∧ ¬ Instr.wf (.tableRead 0 0 0 256) ∧
    Instr.wf (.saleOpen 0 0 ⟨0, 0, 0, 0, 0, 0, 0, 0, []⟩) ∧
    ¬ Instr.wf (.saleOpen 256 0 ⟨0, 0, 0, 0, 0, 0, 0, 0, []⟩) ∧
    ¬ Instr.wf (.saleOpen 0 256 ⟨0, 0, 0, 0, 0, 0, 0, 0, []⟩) ∧
    ¬ Instr.wf (.saleOpen 0 0 ⟨256, 0, 0, 0, 0, 0, 0, 0, []⟩) ∧
    ¬ Instr.wf (.saleOpen 0 0 ⟨0, 256, 0, 0, 0, 0, 0, 0, []⟩) ∧
    ¬ Instr.wf (.saleOpen 0 0 ⟨0, 0, 256, 0, 0, 0, 0, 0, []⟩) ∧
    ¬ Instr.wf (.saleOpen 0 0 ⟨0, 0, 0, 256, 0, 0, 0, 0, []⟩) ∧
    ¬ Instr.wf (.saleOpen 0 0 ⟨0, 0, 0, 0, 256, 0, 0, 0, []⟩) ∧
    ¬ Instr.wf (.saleOpen 0 0 ⟨0, 0, 0, 0, 0, 256, 0, 0, []⟩) ∧
    ¬ Instr.wf (.saleOpen 0 0 ⟨0, 0, 0, 0, 0, 0, 4294967296, 0, []⟩) ∧
    ¬ Instr.wf (.saleOpen 0 0 ⟨0, 0, 0, 0, 0, 0, 0, 256, []⟩) ∧
    ¬ Instr.wf (.saleOpen 0 0 ⟨0, 0, 0, 0, 0, 0, 0, 0, List.replicate 229 []⟩) ∧ Instr.wf (.coinInhibit 0 0 []) ∧
    ¬ Instr.wf (.coinInhibit 256 0 []) ∧ ¬ Instr.wf (.coinInhibit 0 256 []) ∧
    ¬ Instr.wf (.coinInhibit 0 0 [4294967296]) ∧ ¬ Instr.wf (.coinInhibit 0 0 (List.replicate 60 1)) ∧
    Instr.wf (.tubeSet 0 0 0 0) ∧ ¬ Instr.wf (.tubeSet 256 0 0 0) ∧ ¬ Instr.wf (.tubeSet 0 256 0 0) ∧
    ¬ Instr.wf (.tubeSet 0 0 256 0) ∧ ¬ Instr.wf (.tubeSet 0 0 0 256) ∧ Instr.wf (.tubeDump 0 0 0 0) ∧
    ¬ Instr.wf (.tubeDump 256 0 0 0) ∧ ¬ Instr.wf (.tubeDump 0 256 0 0) ∧ ¬ Instr.wf (.tubeDump 0 0 256 0) ∧
    ¬ Instr.wf (.tubeDump 0 0 0 256) ∧ Instr.wf (.recoveryList 0 0 0 0) ∧ ¬ Instr.wf (.recoveryList 256 0 0 0) ∧
    ¬ Instr.wf (.recoveryList 0 256 0 0) ∧ ¬ Instr.wf (.recoveryList 0 0 256 0) ∧
    ¬ Instr.wf (.recoveryList 0 0 0 256) ∧ Instr.wf (.recoveryDrop 0 0 0) ∧ ¬ Instr.wf (.recoveryDrop 256 0 0) ∧
    ¬ Instr.wf (.recoveryDrop 0 256 0) ∧ ¬ Instr.wf (.recoveryDrop 0 0 256) ∧ Instr.wf (.printText 0 0 []) ∧
    ¬ Instr.wf (.printText 256 0 []) ∧ ¬ Instr.wf (.printText 0 256 []) ∧
    ¬ Instr.wf (.printText 0 0 (List.replicate 240 [])) ∧ Instr.wf (.printCancel 0 0 0) ∧
    ¬ Instr.wf (.printCancel 256 0 0) ∧ ¬ Instr.wf (.printCancel 0 256 0) ∧ ¬ Instr.wf (.printCancel 0 0 256) ∧
    Instr.wf (.journalRead 0 0 0 0) ∧ ¬ Instr.wf (.journalRead 256 0 0 0) ∧ ¬ Instr.wf (.journalRead 0 256 0 0) ∧
    ¬ Instr.wf (.journalRead 0 0 256 0) ∧ ¬ Instr.wf (.journalRead 0 0 0 256) ∧ Instr.wf (.journalRelease 0 0 0 0) ∧
    ¬ Instr.wf (.journalRelease 256 0 0 0) ∧ ¬ Instr.wf (.journalRelease 0 256 0 0) ∧
    ¬ Instr.wf (.journalRelease 0 0 4294967296 0) ∧ ¬ Instr.wf (.journalRelease 0 0 0 256) ∧
    Instr.wf (.totalsRead 0 0 0 0 0) ∧ ¬ Instr.wf (.totalsRead 256 0 0 0 0) ∧ ¬ Instr.wf (.totalsRead 0 256 0 0 0) ∧
    ¬ Instr.wf (.totalsRead 0 0 256 0 0) ∧ ¬ Instr.wf (.totalsRead 0 0 0 256 0) ∧
    ¬ Instr.wf (.totalsRead 0 0 0 0 256) ∧ Instr.wf (.unknownRequest 0 0 10 []) ∧
    ¬ Instr.wf (.unknownRequest 256 0 10 []) ∧ ¬ Instr.wf (.unknownRequest 0 256 10 []) ∧
    ¬ Instr.wf (.unknownRequest 0 0 128 []) ∧ ¬ Instr.wf (.unknownRequest 0 0 1 []) ∧
    ¬ Instr.wf (.unknownRequest 0 0 10 (List.replicate 241 0)) := by
  (repeat' apply And.intro) <;> decide +kernel

theorem test_wf_events :
    Instr.wf (.coinRecord .a 0 0 0 0 true) ∧ ¬ Instr.wf (.coinRecord .a 1024 0 0 0 true) ∧
    ¬ Instr.wf (.coinRecord .a 0 1024 0 0 true) ∧ ¬ Instr.wf (.coinRecord .a 0 0 1024 0 true) ∧
    ¬ Instr.wf (.coinRecord .a 0 0 0 64 true) ∧ Instr.wf (.responseReceived []) ∧
    ¬ Instr.wf (.responseReceived (List.replicate 41 0)) := by
  (repeat' apply And.intro) <;> decide +kernel


/-! ## Commands, one step each -/

/-- R192, R193: a power-on with every section bad and the cashbox in place gives the reset state. -/
theorem test_reset_is_power_on :
    exec (.powerOn ⟨true, true, true, true, true⟩) State.reset = .next State.reset := by rfl

/-- R78: the bad PARAMETERS section leaves every tube unused with capacity 150, L1 0 and L2 1. -/
theorem test_power_on_tubes :
    (next (.powerOn ⟨false, false, true, false, true⟩) up).tube .t1 = ⟨0, 150, 0, 1, 10, 0, false⟩ := by decide +kernel

/-- R193 step 6: with TABLES_CLEARED the part enters SERVICE. -/
theorem test_startup_end : (next (.startupEnd false) State.reset).part = .service := by decide +kernel

/-- R195: without force an open sale refuses RESET with WRONG_STATE. -/
theorem test_reset_without_force :
    replyOf (next (.resetWithoutForce 0 1) (withSale .a .paying (some 60) [] .none sale up)) = some (.wrongState, []) := by
  decide +kernel

/-- R195: with force it is taken, and takes effect once the reply is sent. -/
theorem test_reset_with_force :
    replyOf (next (.resetWithForce 0 1) up) = some (.ok, []) ∧
    (next .transmitEnd (next (.resetWithForce 0 1) up)).part = .starting := by decide +kernel

/-- R196: taken in IN_USE. -/
theorem test_shutdown : (next (.shutdown 0 1) up).part = .shuttingDown := by decide +kernel

/-- R186, R188: TABLES_CLEARED ends at SERVICE_LEAVE. -/
theorem test_service_enter_leave :
    (next (.serviceEnter 0 1) up).part = .service ∧
    (next (.serviceLeave 0 1) { inService with tablesCleared := true }).tablesCleared = false := by decide +kernel

/-- R190: the reply gives the clock as it stood: day 20,300 (4F 4C), second 61,200 (00 EF 10), set. -/
theorem test_clock_set :
    replyOf (next (.clockSet 0 1 20301 0) up) = some (.ok, [0x4F, 0x4C, 0x00, 0xEF, 0x10, 0x01]) ∧
    (next (.clockSet 0 1 20301 0) up).clk = ⟨true, 20301, 0, false⟩ := by decide +kernel

/-- R207: STATUS empties the raised-event set. -/
theorem test_status :
    (next (.status 0 1) { up with lki := { up.lki with raised := [.paperLow], dropCount := 3 } }).lki.raised = [] ∧
    (next (.status 0 1) { up with lki := { up.lki with raised := [.paperLow], dropCount := 3 } }).lki.dropCount = 0 := by
  decide +kernel

/-- R31: an id that another entry holds is RANGE, and the entry keeps its old content. -/
theorem test_table_write_product :
    replyOf (next (.tableWriteProduct 0 1 5 ⟨31, 1, 100, 0, 1, 5, 0, 0, 0, 0, 0⟩) inService) = some (.range, []) ∧
    (next (.tableWriteProduct 0 1 0 ⟨9, 1, 100, 0, 1, 5, 0, 0, 0, 0, 0⟩) inService).fcu.find 9 =
      some ⟨9, .single, 100, 0, 1, 5, false, 0, 0, 0, 0⟩ := by decide +kernel

/-- R32: class 0 has discount 0. -/
theorem test_table_write_concession :
    replyOf (next (.tableWriteConcession 0 1 0 1 0) inService) = some (.range, []) ∧
    (next (.tableWriteConcession 0 1 7 10000 5) inService).fcu.classes.getD 7 ⟨0, false, false, false, false⟩ =
      ⟨10000, true, false, true, false⟩ := by decide +kernel

/-- R33: a band starts before it ends. -/
theorem test_table_write_band :
    (next (.tableWriteBand 0 1 3 1 0 86400 20000) inService).fcu.bands = [none, none, none, some ⟨0, 86400, 20000⟩] ∧
    replyOf (next (.tableWriteBand 0 1 3 1 500 500 1) inService) = some (.range, []) := by decide +kernel

/-- R34: a tier has a threshold of at least 1 and a rate of at most 5,000. -/
theorem test_table_write_tier :
    (next (.tableWriteTier 0 1 0 0 0 0) inService).fcu.tiers = [none, none, none, none] ∧
    replyOf (next (.tableWriteTier 0 1 0 1 1 5001) inService) = some (.range, []) := by decide +kernel

/-- R35: the unit is one of eight values. -/
theorem test_table_write_global :
    (next (.tableWriteGlobal 0 1 0 25 4 999999 31) inService).fcu.unit = 25 ∧
    replyOf (next (.tableWriteGlobal 0 1 0 30 1 20000 0) inService) = some (.range, []) := by decide +kernel

/-- R56: a CASHBOX entry names no tube; a DISABLED one is stored as it is. -/
theorem test_table_write_acceptance :
    replyOf (next (.tableWriteAcceptance 0 1 3 ⟨1, 0, 0, 0, 0, 0, 0, 0, 0, 3, 200, 2, 1⟩) inService) = some (.range, []) ∧
    (next (.tableWriteAcceptance 0 1 0 acceptDisabled) inService).ciu.accept.head? = some acceptDisabled := by
  decide +kernel

/-- R79: a tube that holds coins keeps its denomination. -/
theorem test_table_write_tube :
    replyOf (next (.tableWriteTube 0 1 1 100 60 2 6) inService) = some (.tubeNotEmpty, []) ∧
    (next (.tableWriteTube 0 1 3 100 40 1 2) inService).tube .t3 = ⟨100, 40, 1, 2, 0, 0, false⟩ := by decide +kernel

/-- R187: the coin limit is 1 to 40. -/
theorem test_table_write_coin_limit :
    (next (.tableWriteCoinLimit 0 1 0 40) inService).chu.coinLimit = 40 ∧
    replyOf (next (.tableWriteCoinLimit 0 1 0 41) inService) = some (.range, []) := by decide +kernel

/-- R145: a roll has 500 to 20,000 lines. -/
theorem test_table_write_paper :
    (next (.tableWritePaper 0 1 0 500 20000 1) inService).pru.rollLines = 500 ∧
    replyOf (next (.tableWritePaper 0 1 0 499 0 1) inService) = some (.range, []) := by decide +kernel

/-- R184: the automatic time is a second of day. -/
theorem test_table_write_journal :
    (next (.tableWriteJournal 0 1 0 64 3600 1 86399) inService).jnu.autoTime = some 86399 ∧
    replyOf (next (.tableWriteJournal 0 1 0 64 3600 1 86400) inService) = some (.range, []) := by decide +kernel

/-- R187: AWAIT_CARD is 5 to 120 s. -/
theorem test_table_write_timers :
    (next (.tableWriteTimers 0 1 0 5 300 60 1) inService).timers = ⟨5, 300, 60, 1⟩ ∧
    replyOf (next (.tableWriteTimers 0 1 0 121 300 60 1) inService) = some (.range, []) := by decide +kernel

/-- R204: mode 1 is OFF. -/
theorem test_table_write_notice_modes :
    (next (.tableWriteNoticeModes 0 1 15 1) inService).lki.modes.getD 15 .onBoth = .off ∧
    replyOf (next (.tableWriteNoticeModes 0 1 16 1) inService) = some (.range, []) := by decide +kernel

/-- R187: the tube limit reads as one byte; outside SERVICE a TABLE_WRITE is NOT_IN_SERVICE. -/
theorem test_table_read :
    replyOf (next (.tableRead 0 1 8 0) up) = some (.ok, [15]) ∧
    replyOf (next (.tableWriteCoinLimit 0 1 0 40) up) = some (.notInService, []) := by decide +kernel

/-- The operands of a 310 mu paper ticket. -/
def ticketOrder : SaleOperands := ⟨1, 1, 1, 0, 1, 1, 0, 0, []⟩
def topupOrder : SaleOperands := ⟨40, 1, 1, 0, 2, 1, 5000, 0, []⟩

/-- R6, R7: the reply gives the sequence, the price 310 (01 36) and the condition set. -/
theorem test_sale_open :
    replyOf (next (.saleOpen 1 1 ticketOrder) up) = some (.ok, [0, 0, 0, 42, 1, 0, 0, 1, 0x36, 0]) ∧
    ((next (.saleOpen 1 1 topupOrder) up).lane .a).state = .awaitCard := by decide +kernel

/-- R6 check 1 and check 6. -/
theorem test_sale_open_refused :
    replyOf (next (.saleOpen 2 1 ticketOrder) inService) = some (.serviceState, []) ∧
    replyOf (next (.saleOpen 2 1 ticketOrder) (withJournal 1 59 up)) = some (.journalFull, []) := by decide +kernel

/-- R15: with coins in the tray a cancel begins a refund. -/
theorem test_sale_cancel :
    ((next (.saleCancel 1 1) (withSale .a .paying (some 60) [⟨200, .cashbox⟩] .none { sale with coinsReceived := 200 }
      up)).lane .a).state = .refunding := by decide +kernel

/-- R27: 10 s for an enquiry. -/
theorem test_card_read : ((next (.cardRead 2 1) up).lane .b).timer = some 10 := by decide +kernel

/-- R27: an enquiry that finds no card ends with a CARD notice. -/
theorem test_enquiry_timeout :
    ((next (.enquiryTimeout .b) (busyLine (next (.cardRead 2 1) up))).lki.notices.contains (.card .b none)) = true := by
  decide +kernel

/-- Lane A's HALT waits behind the printer's exchange. -/
def haltWaits (p : Purpose) : State :=
  let s := exchanging .printer .printerStatus .sending false
    (up.setSession .a { Session.start with purpose := p, phase := .ending, use := some .halt })
  { s with dbc := { s.dbc with waiting := s.dbc.waiting.set .frontA (some .halt) } }

/-- R109, R154: the end of a purpose withdraws a HALT that waits; where no purpose stands, none ends. -/
theorem test_halt_withdrawn :
    (next (.cardRead 1 1) (haltWaits .idleScan)).dbc.waiting.get .frontA = none ∧
    ((next (.cardRead 1 1) (haltWaits .idleScan)).session .a).phase = .polling ∧
    (next (.cardRead 1 1) (haltWaits .none)).dbc.waiting.get .frontA = some .halt := by decide +kernel

/-- R109: the read that ends an ENQUIRY is followed by HALT, here behind the printer's request (log entry 61). -/
theorem test_enquiry_halt :
    (let s := exchanging .frontA (.blockRead 6) .receiving true (next (.cardRead 1 1) up)
     let t := { s.setSession .a { s.session .a with
         phase := .reading, serial := some (serial 7), current := (card emptyBlock emptyBlock).take 6, use := some .read } with
       dbc := { s.dbc with pointer := some .frontA, waiting := s.dbc.waiting.set .printer (some .printerStatus) } }
     (next (.responseReceived (response 0 emptyBlock)) t).dbc.waiting.get .frontA) = some .halt := by decide +kernel

/-- R5: the path set that stays faulty is the coin path (1). -/
theorem test_lane_restore :
    replyOf (next (.laneRestore 1 1) (next (.headLinkTimeout .a) up)) = some (.stillFaulty, [1]) ∧
    replyOf (next (.laneRestore 1 1) up) = some (.ok, []) := by decide +kernel

/-- R65: a denomination listed twice stands once; 1 to 50,000 mu. -/
theorem test_coin_inhibit :
    ((next (.coinInhibit 1 1 [50, 200, 50]) up).coin .a).inhibits = [50, 200] ∧
    replyOf (next (.coinInhibit 1 1 [50001]) up) = some (.range, []) := by decide +kernel

/-- R71: ON is taken on an IDLE lane, and each lane has its own mode. -/
theorem test_coin_audit :
    ((next (.coinAuditOn 1 1) up).coin .a).audit = true ∧
    ((next (.coinAuditOff 1 1) (next (.coinAuditOn 2 1) up)).coin .b).audit = true := by decide +kernel

/-- R97: a count above the capacity is RANGE. -/
theorem test_tube_set :
    ((next (.tubeSet 0 1 1 60) inService).tube .t1).count = 60 ∧
    replyOf (next (.tubeSet 0 1 1 61) inService) = some (.range, []) := by decide +kernel

/-- R98: the first coin is ejected at once. -/
theorem test_tube_dump :
    (next (.tubeDump 0 1 1 10) inService).drives = [.eject .t1] ∧
    replyOf (next (.tubeDump 0 1 1 1) { inService with ciu := { up.ciu with boxPresent := false } }) =
      some (.cashboxAbsent, []) := by decide +kernel

/-- R131: entry 3 leaves; place 4 is empty. -/
theorem test_recovery_drop :
    (next (.recoveryDrop 0 1 3) (withEntry 3 (entry 9 false) inService)).crt.entry 3 = none ∧
    replyOf (next (.recoveryDrop 0 1 4) inService) = some (.noEntry, []) := by decide +kernel

/-- R132: the count of entries stands first. -/
theorem test_recovery_list :
    (replyOf (next (.recoveryList 0 1 0 4) (withEntry 15 (entry 9 true) up))).map (fun r => r.2.head?) = some (some 1) := by
  decide +kernel

/-- R143: a loaded roll has roll_lines. -/
theorem test_paper_loaded :
    (next (.paperLoaded 0 1) { up with pru := { up.pru with linesRemaining := 3 } }).pru.linesRemaining = 4000 := by
  decide +kernel

/-- R149: no lines is RANGE. -/
theorem test_print_text :
    replyOf (next (.printText 0 1 [[0x41]]) up) = some (.ok, [1]) ∧
    replyOf (next (.printText 0 1 []) up) = some (.range, []) := by decide +kernel

/-- R146: a TICKET is not cancelled, and an id of no job is NO_JOB. -/
theorem test_print_cancel :
    replyOf (next (.printCancel 0 1 9) { up with pru := { up.pru with jobs := [job 9 .ticket 0 false] } }) =
      some (.notCancellable, []) ∧
    replyOf (next (.printCancel 0 1 8) up) = some (.noJob, []) := by decide +kernel

/-- R176: the stored and the reserved counts stand first. -/
theorem test_journal_read :
    (replyOf (next (.journalRead 0 1 0 1) (withJournal 5 2 up))).map (fun r => r.2.take 6) = some [2, 0, 0, 0, 0, 5] := by
  decide +kernel

/-- Section 9.7 steps 11 and 12: 20 of 64 records from 8,946 leave, 44 stay and the oldest is 8,966 (23 06); sent again
the release is SEQUENCE_MISMATCH. -/
theorem test_journal_release :
    replyOf (next (.journalRelease 0 1 8946 20) (withJournal 8946 64 up)) = some (.ok, [44, 0, 0, 0x23, 0x06]) ∧
    replyOf (next (.journalRelease 0 1 8946 20) (withJournal 8966 44 up)) = some (.sequenceMismatch, []) := by
  decide +kernel

/-- R180: the running totals start again. -/
theorem test_totals_snapshot :
    (next (.totalsSnapshot 0 1) { up with jnu := { up.jnu with totals := { up.jnu.totals with credit := 9 } } }).jnu.totals =
      .zero (some ⟨20300, 61200⟩) := by decide +kernel

/-- R183: no snapshot yet reads as presence 0. -/
theorem test_totals_read : replyOf (next (.totalsRead 0 1 2 1 0) up) = some (.ok, [0]) := by decide +kernel

/-- R200: an unknown code is answered in STARTING too, a known one is SERVICE_STATE there. -/
theorem test_unknown_request :
    replyOf (next (.unknownRequest 0 1 0x7F []) State.reset) = some (.unknownRequest, []) ∧
    replyOf (next (.tubeRead 0 1) State.reset) = some (.serviceState, []) := by decide +kernel

/-- R199: only a start byte begins a frame. -/
theorem test_host_byte :
    (next (.hostByte 0xA5 false) up).lki.receiver = some [] ∧ (next (.hostByte 0x5A false) up).lki.receiver = none ∧
    (next .receiveTimeout (next (.hostByte 0xA5 false) up)).lki.dropCount = 1 := by decide +kernel

/-- R57, R62: a coin at the window's diameter goes to the tray, bound for tube 1; one a unit wider is not recognised. -/
theorem test_coin_record :
    ((next (.coinRecord .a 510 10 10 0 true) (withSale .a .paying (some 3) [] .none sale up)).coin .a).tray =
      [⟨50, .tube .t1⟩] ∧
    ((next (.coinRecord .a 521 10 10 0 true) (withSale .a .paying (some 3) [] .none sale up)).coin .a).tray = [] := by
  decide +kernel

/-- Section 1.11 step 3: the second 200 mu coin leaves 90 owed, reserved as 50 + 20 + 20. -/
theorem test_coin_over_price :
    (next (.coinRecord .a 610 10 10 0 true)
      (withSale .a .paying (some 3) [⟨200, .cashbox⟩] .none { sale with coinsReceived := 200 } up)).chu.res.a =
      [(.t1, 1), (.t2, 2)] := by decide +kernel

/-- R3, R53, R54: a LOST head leaves CARD_ONLY until a sign of life; jams begin and end. -/
theorem test_head_link_and_jam :
    (next (.headLinkTimeout .a) up).level .a = .cardOnly ∧
    ((next (.statusRecord .a false false) (next (.headLinkTimeout .a) up)).coin .a).linkUp = true ∧
    ((next (.jamTimerExpiry .a) (next (.statusRecord .a true false) up)).coin .a).jam = true ∧
    ((next (.jamClearTimerExpiry .b) (up.setCoin .b { up.coin .b with jam := true })).coin .b).jam = false := by
  decide +kernel

/-- R75: the contents are emptied, and the condition ends when the cashbox is back. -/
theorem test_cashbox :
    (next .cashboxRemoved { up with ciu := { up.ciu with boxCoins := [(200, 1)], boxValue := 200 } }).ciu.boxCoins = [] ∧
    Cond.cashboxOut ∉ (next .cashboxReplaced (next .cashboxRemoved up)).lki.conds := by decide +kernel

/-- Section 3.9 step 8: with the cashbox out and no tube of its denomination the release pauses. -/
theorem test_release_pauses :
    ((next (.escrowReleaseEntry .b) { withSale .b .delivering none [⟨100, .cashbox⟩] .releasing
      { sale with coinsReceived := 310 } up with ciu := { (withSale .b .delivering none [⟨100, .cashbox⟩] .releasing
      { sale with coinsReceived := 310 } up).ciu with boxPresent := false } }).coin .b).trayOp = .paused := by
  decide +kernel

/-- Section 1.11, the cancel told second: the return closes the sale CANCELLED with 200 returned. -/
theorem test_return_closes :
    ((next (.escrowReturnComplete .a) (withSale .a .refunding none [⟨200, .cashbox⟩] .returning
      { sale with coinsReceived := 200, refundOutcome := some .cancelled } up)).jnu.journal.map Record.body) =
      [.sale ({ sale with coinsReceived := 200, escrowReturned := 200 }.record .a (some ⟨20300, 61200⟩) .cancelled)] := by
  decide +kernel

/-- R11, R14, R17: the three timers before delivery. -/
theorem test_lane_timeouts :
    ((next (.awaitCardTimeout .a) (withSale .a .awaitCard (some 30) [] .none { sale with delivery := .card } up)).lane .a).state
      = .idle ∧
    ((next (.inactivityTimeout .a) (withSale .a .paying (some 60) [⟨200, .cashbox⟩] .none { sale with coinsReceived := 200 }
      up)).lane .a).state = .refunding ∧
    ((next (.preWriteWindowExpiry .a) (withSale .a .cardWait (some 20) [⟨200, .cashbox⟩] .none
      { sale with coinsReceived := 310, waitKind := some .preWrite } up)).lane .a).state = .refunding := by decide +kernel

/-- Section 6.6 step 6: the entry stands DETACHED. -/
theorem test_in_doubt_window :
    ((next (.inDoubtWindowExpiry .a) (withEntry 1 (entry 7 true) (withSale .a .cardWait (some 20) [⟨200, .cashbox⟩] .none
      { sale with coinsReceived := 310, delivery := .card, waitKind := some .inDoubt, entryNo := some 1, entryAttached := true }
      up))).crt.entry 1) = some (entry 7 false) := by decide +kernel

/-- R155, section 8.10 step 1: on a free bus with nothing waiting the poll is granted at once. -/
theorem test_card_poll_timer :
    ((next (.cardPollTimer .a) (next (.saleOpen 1 1 topupOrder) up)).dbc.current.map fun e => (e.dev, e.req)) =
      some (.frontA, .fieldPoll) := by decide +kernel

/-- R156, R157: 30 ms for a front-end; READY counts once it has been low. -/
theorem test_bus_phases :
    ((next .requestSent (exchanging .frontB .fieldPoll .sending false up)).dbc.current.map Exchange.deadline) = some (some 30) ∧
    ((next .readyLow (exchanging .frontB .fieldPoll .waitingReady false up)).dbc.current.map Exchange.seenLow) = some true ∧
    ((next .readyRise (exchanging .frontB .fieldPoll .waitingReady true up)).dbc.current.map Exchange.phase) =
      some .receiving := by decide +kernel

/-- R160: a timeout raises the count, a response clears it. -/
theorem test_bus_counts :
    (next .responseDeadline (exchanging .printer .printerStatus .waitingReady false up)).dbc.counts.printer = 1 ∧
    (next (.responseReceived (response 0 [0, 0])) (exchanging .printer .printerStatus .receiving true
      { up with dbc := { Dbc.start with counts := ⟨2, 2, 2⟩ } })).dbc.counts = ⟨2, 2, 0⟩ := by decide +kernel

/-- R141: an open cover is OFFLINE before paper counts. -/
theorem test_printer_status :
    (next (.responseReceived (response 0 [2, 1])) (exchanging .printer .printerStatus .receiving true
      { up with pru := { up.pru with use := some .status } })).pru.printer = .offline ∧
    ((next .printerStatusTimer up).dbc.current.map Exchange.req) = some .printerStatus := by decide +kernel

/-- R142: the ticket hold runs out. -/
theorem test_ticket_hold_expiry :
    (next .ticketHoldExpiry { up with pru := { up.pru with
      printer := .paperOut, hold := .running, jobs := [job 1 .service 0 false] } }).pru.hold = .expired := by decide +kernel

/-- A payout of 90 from tubes 1 and 2 (section 1.11 step 7). -/
def paying90 : State :=
  { withSale .a .payout none [] .none { sale with coinsReceived := 400, verified := true } up with
    chu := { up.chu with
      res := ⟨[(.t1, 1), (.t2, 2)], []⟩, orders := [⟨.change, .a, 41, 90, 0, 0, 0, 0, []⟩], wait := some ⟨.t1, false⟩ } }

/-- R90: the coin is counted out of its tube and the next one pulsed. -/
theorem test_payout_confirm :
    ((next .payoutSensorConfirm paying90).tube .t1).count = 9 ∧ (next .payoutSensorConfirm paying90).drives = [.eject .t2] ∧
    ((next .payoutSensorConfirm paying90).lane .a).sale.map Sale.changePaid = some 50 := by decide +kernel

/-- R91, R92: the second missed wait writes the tube off. -/
theorem test_payout_wait :
    (next .payoutWaitExpiry paying90).chu.wait = some ⟨.t1, true⟩ ∧
    ((next .payoutWaitExpiry (next .payoutWaitExpiry paying90)).tube .t1).count = 0 := by decide +kernel

/-- R175: the notice carries the stored count and the oldest record's time. -/
theorem test_wait_timer :
    (next .waitTimerExpiry (busyLine (withJournal 1 3 up))).lki.notices = [.journalWaiting 3 none] := by decide +kernel

/-- R189: the last second of a day begins the next. -/
theorem test_clock_second :
    (next .clockSecond up).clk = ⟨true, 20300, 61201, true⟩ ∧
    (next .clockSecond { up with clk := ⟨true, 65535, 86399, true⟩ }).clk = ⟨false, 0, 0, false⟩ ∧
    (next .dayChange { up with clk := ⟨true, 20300, 86399, true⟩ }).clk = ⟨true, 20301, 0, true⟩ := by decide +kernel

/-- Section 9.7 step 13: at the next minute the waiting expiry is retried. -/
theorem test_recovery_expiry_retry :
    (next .recoveryExpiryRetry (withEntry 4 { entry 9 false with expiryPending := true } up)).crt.entry 4 = none := by
  decide +kernel

/-- R182: an automatic snapshot is taken once a day; one that finds no room waits. -/
theorem test_auto_snapshot :
    (next .autoSnapshotDue { up with
      clk := ⟨true, 20300, 61200, true⟩, jnu := { up.jnu with autoTime := some 61200 } }).jnu.lastAutoDay = some 20300 ∧
    (next .autoSnapshotRetry { up with jnu := { up.jnu with retry := some 20299 } }).jnu.retry = none := by decide +kernel

/-- R196, R197: in STARTING the warning is held; with no work open the part is QUIESCED. -/
theorem test_power_warning :
    (next .powerWarning up).part = .shuttingDown ∧ (next .powerWarning State.reset).warnHeld = true ∧
    (next .quiescedEntry (inPart .shuttingDown)).part = .quiesced := by decide +kernel

/-- R201: a ready reply goes out before the notices that wait. -/
theorem test_transmit_end :
    (next .transmitEnd { busyLine up with lki := { (busyLine up).lki with
      hold := [⟨1, 0, 7, .status⟩], ready := some ⟨1, 0, 7, .ok, []⟩, notices := [.quiesced] } }).lki.tx =
      some (.reply ⟨1, 0, 7, .ok, []⟩) := by decide +kernel

/-- R168 and section 12.3: the record of a sale is 91 bytes long with its header. -/
theorem test_sale_record_size :
    (Record.bytes ⟨1, 0, none, .sale (sale.record .a none .completed)⟩).length = 91 := by decide +kernel

/-- R96, R150, R167, R198: requests that only report. -/
theorem test_reports :
    (replyOf (next (.identify 0 1) State.reset)).map Prod.fst = some .ok ∧
    (replyOf (next (.tubeRead 0 1) up)).map Prod.fst = some .ok ∧
    (replyOf (next (.busRead 0 1) up)).map Prod.fst = some .ok ∧
    (replyOf (next (.printList 0 1) up)).map Prod.fst = some .ok := by decide +kernel


/-! ## Witnesses: states and operands that meet the hypotheses of each statement, clause by clause -/

/-- A command at the front of the queue, with one behind it. -/
def queued (c : Instr) (s : State) : State := { s with pending := [c, .receiveTimeout] }

theorem witness_StepRunsTheFrontCommand :
    (queued .clockSecond up).pending = .clockSecond :: [.receiveTimeout] := by rfl

theorem witness_EveryCommandKeepsQueueTablesAndClock :
    mayWriteTables .powerWarning = false ∧ mayWriteTables (.tableRead 0 0 1 0) = false ∧
    mayMoveClock .cashboxRemoved = false ∧ mayMoveClock (.tableWriteCoinLimit 0 0 0 1) = false := by decide

theorem witness_StepKeepsSettled : up.Settled ∧ ∃ t, step (queued .clockSecond up) = .next t :=
  ⟨test_up_settled, _, rfl⟩

def dumping : State :=
  { inService with chu := { up.chu with
    dump := some ⟨.t1, 3, 10, 0, 0, 0, false⟩, wait := some ⟨.t1, false⟩, diverterBox := true } }

/-- A pulse to the cashbox, which is present; an absent cashbox; and a dump with the diverter at the cashbox. -/
theorem witness_StepKeepsLaw10 :
    (queued .cashboxRemoved { up with drives := [.route .a .cashbox] }).law10 ∧
    (queued .cashboxRemoved { up with drives := [], ciu := { up.ciu with boxPresent := false } }).law10 ∧
    (queued .cashboxRemoved dumping).law10 ∧
    (∃ t, step (queued .cashboxRemoved { up with drives := [.route .a .cashbox] }) = .next t) ∧
    ∃ t, step (queued .cashboxRemoved dumping) = .next t :=
  ⟨⟨fun _ => rfl, by decide⟩, ⟨(by rintro ⟨d, hd, -⟩; cases hd), by decide⟩, ⟨fun _ => rfl, by decide⟩, ⟨_, rfl⟩, _, rfl⟩

/-- Every queue and count at its bound. -/
def fullLink : State :=
  { up with lki := { up.lki with
    hold := [⟨1, 0, 1, .status⟩, ⟨1, 0, 2, .status⟩], notices := List.replicate 32 .quiesced, tx := some (.notice .quiesced)
    dropCount := 255, lostCount := 255 } }

/-- Two records about the place where the sequence starts again at 1. -/
def wrapped : State :=
  { up with jnu := { up.jnu with
    journal := [⟨4294967295, 0, none, .power .reset ⟨false, false, false, false⟩ 0⟩,
      ⟨1, 0, none, .power .reset ⟨false, false, false, false⟩ 0⟩]
    recSeq := 2 } }

theorem witness_StepKeepsQueuesAndSequences :
    ((queued (.status 0 3) fullLink).linkBounded ∧ ∃ t, step (queued (.status 0 3) fullLink) = .next t) ∧
    ((queued .cashboxRemoved wrapped).recordsSequenced ∧ ∃ t, step (queued .cashboxRemoved wrapped) = .next t) ∧
    (queued .printerStatusTimer up).busBusy ∧
    (queued .printerStatusTimer (exchanging .frontA .halt .sending false up)).busBusy ∧
    ∃ t, step (queued .printerStatusTimer up) = .next t :=
  ⟨⟨⟨by decide, by decide, by decide, by decide⟩, _, rfl⟩, ⟨⟨rfl, rfl⟩, _, rfl⟩, fun _ => rfl, fun h => (nomatch h), _, rfl⟩

/-- A lane pays with the journal's last place taken by its pair. -/
def lastPair : State := withSale .a .paying (some 60) [] .none { sale with ticketSlot := true } (withJournal 1 62 up)

theorem witness_StepKeepsLaw2 :
    (queued .cashboxRemoved lastPair).Settled ∧ (queued .cashboxRemoved lastPair).JournalLawful ∧
    (queued .cashboxRemoved lastPair).stored + (queued .cashboxRemoved lastPair).held = 64 ∧
    ∃ t, step (queued .cashboxRemoved lastPair) = .next t :=
  ⟨settled_of_check (by decide +kernel),
    ⟨by decide +kernel, fun l x h => by cases l <;> cases h; rfl, fun l r h => by cases l; all_goals cases h⟩,
    by decide +kernel, _, rfl⟩

/-- Fifteen recovery entries and a reservation; seven jobs and a reservation for the sale that pays. -/
def tablesFull : State :=
  let s := withSale .b .paying (some 60) [] .none { sale with ticketSlot := true } up
  { s with
    crt := { s.crt with
      entries := (List.range 16).map fun i => if i < 15 then some (entry i true) else none
      reserved := ⟨true, false⟩ }
    pru := { s.pru with
      jobs := (List.range 7).map fun i => job (i + 1) .service 0 false
      reserved := ⟨false, true⟩ } }

theorem witness_StepKeepsLaws3And4 :
    (queued .cashboxRemoved tablesFull).law3 ∧ (queued .cashboxRemoved tablesFull).SlotsLawful ∧
    tablesFull.crt.count + tablesFull.crt.reservations = 16 ∧ tablesFull.pru.taken = 8 ∧
    ∃ t, step (queued .cashboxRemoved tablesFull) = .next t :=
  ⟨by decide +kernel, ⟨by decide +kernel, fun l hl x h _ => by
    cases l
    · cases h
    · rfl⟩, by decide +kernel, by decide +kernel, _, rfl⟩

/-- Lane A is paid its change, lane B pays with a coin in its tray. -/
def bothSelling : State :=
  let s := withSale .b .paying (some 60) [⟨200, .cashbox⟩] .none { sale with coinsReceived := 200 }
    (withSale .a .payout none [] .none { sale with coinsReceived := 400, verified := true } up)
  { s with chu := { s.chu with orders := [⟨.change, .a, 41, 90, 0, 0, 0, 0, []⟩] } }

theorem witness_StepKeepsLaws7And8And12 :
    (queued .payoutWaitExpiry bothSelling).Settled ∧ (queued .payoutWaitExpiry bothSelling).LanesLawful ∧
    ∃ t, step (queued .payoutWaitExpiry bothSelling) = .next t :=
  ⟨settled_of_check (by decide +kernel),
    ⟨by decide +kernel,
      fun l => by
        cases l
        · exact ⟨rfl, by decide +kernel, by decide +kernel, by decide +kernel, by decide +kernel, by decide +kernel,
            by decide +kernel⟩
        · exact ⟨rfl, fun _ => ⟨_, rfl, by decide +kernel⟩, by decide +kernel, by decide +kernel, by decide +kernel,
            fun _ x h => by cases h; decide +kernel, by decide +kernel⟩,
      by decide +kernel, by decide +kernel, by decide +kernel⟩, _, rfl⟩

/-- The two lanes as above, with the reservation that lane A's order is being paid from and a tube whose last places are
bound for the coin in lane B's tray. -/
def payingOut : State :=
  let s := withSale .b .paying (some 60) [⟨50, .tube .t1⟩] .none { sale with coinsReceived := 50 } bothSelling
  { s with chu := { s.chu with
    tubes := ⟨⟨50, 11, 2, 6, 10, 1, false⟩, ⟨20, 60, 2, 6, 2, 0, false⟩, .unused 0, .unused 0, .unused 0, .unused 0⟩
    res := ⟨[(.t1, 1), (.t2, 2)], []⟩
    wait := some ⟨.t1, false⟩ } }

theorem payingOut_lanes : (queued .payoutWaitExpiry payingOut).LanesLawful :=
  ⟨by decide +kernel,
    fun l => by
      cases l
      · exact ⟨rfl, by decide +kernel, by decide +kernel, by decide +kernel, by decide +kernel, by decide +kernel,
          by decide +kernel⟩
      · exact ⟨rfl, fun _ => ⟨_, rfl, by decide +kernel⟩, by decide +kernel, by decide +kernel, by decide +kernel,
          fun _ x h => by cases h; decide +kernel, by decide +kernel⟩,
    by decide +kernel, by decide +kernel, by decide +kernel⟩

theorem payingOut_tubes : (queued .payoutWaitExpiry payingOut).TubesLawful :=
  ⟨by decide +kernel, fun _ => by decide +kernel, by decide +kernel, by decide +kernel,
    fun l => (by cases l <;> decide +kernel), fun l h => (by cases l <;> cases h), fun h => (nomatch h),
    fun w h _ => (by cases h; exact ⟨_, rfl, by decide +kernel⟩)⟩

/-- Tube 2 with every coin reserved, and tube 1 full but for the coin bound for it. -/
theorem witness_StepKeepsLaw1 :
    (queued .payoutWaitExpiry payingOut).Settled ∧ (queued .payoutWaitExpiry payingOut).LanesLawful ∧
    (queued .payoutWaitExpiry payingOut).TubesLawful ∧ ∃ t, step (queued .payoutWaitExpiry payingOut) = .next t :=
  ⟨settled_of_check (by decide +kernel), payingOut_lanes, payingOut_tubes, _, rfl⟩

/-- Lane A's order owes what its reservation is worth; a SALE record that balances stands in the journal. -/
def payingOutOver : State :=
  { payingOut with jnu := { payingOut.jnu with
    journal := [⟨1, 0, none, .sale ({ sale with coinsReceived := 400, changePaid := 60, shortfall := 30 }.record .b none
      .completed)⟩]
    recSeq := 2 } }

theorem witness_StepKeepsLaw6 :
    (queued .payoutSensorConfirm payingOutOver).Settled ∧ (queued .payoutSensorConfirm payingOutOver).LanesLawful ∧
    (queued .payoutSensorConfirm payingOutOver).TubesLawful ∧ (queued .payoutSensorConfirm payingOutOver).MoneyLawful ∧
    ∃ t, step (queued .payoutSensorConfirm payingOutOver) = .next t := by
  refine ⟨settled_of_check (by decide +kernel), ?_, ?_, ?_, _, rfl⟩
  · obtain ⟨a, b, c, d, e⟩ := payingOut_lanes
    exact ⟨a, fun l => let ⟨f, g, h, i, j, k, m⟩ := b l; ⟨f, g, h, i, j, k, m⟩, c, d, e⟩
  · obtain ⟨a, b, c, d, e, f, g, h⟩ := payingOut_tubes
    exact ⟨a, b, c, d, e, f, g, h⟩
  · refine ⟨?_, ?_, ?_, ?_, ?_, ?_, by decide +kernel⟩
    · intro r hr
      simp only [queued, payingOutOver, List.mem_singleton] at hr
      subst hr
      decide +kernel
    · intro l x h
      cases l <;> cases h
      · exact ⟨rfl, fun h => (nomatch h), fun _ _ => by decide +kernel, fun h => (nomatch h), fun _ => .inr rfl, fun _ => rfl,
          ⟨fun h => absurd rfl h, by decide +kernel⟩, ⟨fun _ => ⟨rfl, rfl⟩, by decide +kernel⟩, fun o h => (nomatch h),
          fun h => by rcases h with h | h <;> cases h⟩
      · exact ⟨rfl, fun h => (nomatch h), fun h => (nomatch h), fun _ => by decide +kernel, fun h => (nomatch h),
          fun h => (nomatch h), ⟨fun _ => rfl, by decide +kernel⟩, ⟨fun _ => ⟨rfl, rfl⟩, by decide +kernel⟩,
          fun o h => (nomatch h), fun h => by rcases h with h | h <;> cases h⟩
    · intro l h
      cases l <;> cases h
    · intro l x h
      cases l <;> cases h <;> decide +kernel
    · intro l x h
      cases l <;> cases h <;> decide +kernel
    · intro o ho x hx
      obtain rfl := List.mem_singleton.mp (show o ∈ [⟨.change, .a, 41, 90, 0, 0, 0, 0, []⟩] from ho)
      cases hx
      decide +kernel


/-- Two pending notes, an open cashbox with coins in it, and the journal with its last place free. -/
def noted (n : Nat) : State :=
  let s := withJournal 1 n up
  { s with
    ciu := { s.ciu with boxPresent := false, boxCoins := [(50, 2)], boxValue := 100 }
    pru := { s.pru with notes := [⟨.a, 39, 30, 3⟩, ⟨.b, 40, 10, 4⟩] } }

/-- Snapshots of sales to be released, to be returned and to be closed at once. -/
def snapped (l : Lane) (st : LaneState) (tray : List TrayEntry) (x : Sale) : State := withSale l st none tray .none x up

theorem witness_PowerOnChecksTheSections :
    ((⟨true, true, true, true, true⟩ : PowerOnInputs).badFinancial = true ∧
      (⟨true, false, true, false, false⟩ : PowerOnInputs).badFinancial = false) ∧
    ((noted 61).foundRemoved false ∧ (noted 61).boxAdmitted ∧ (noted 61).startBodies false ≠ [] ∧
      (noted 62).foundRemoved false ∧ ¬ (noted 62).boxAdmitted ∧ (noted 62).pru.notes ≠ []) ∧
    (up.startBodies true = [] ∧ ¬ up.foundRemoved true ∧ ∀ l ∈ [Lane.a, .b], (up.lane l).snapshot = none) ∧
    (∃ x, ((snapped .a .cardWait [⟨200, .cashbox⟩] { sale with entryNo := some 15, entryAttached := true }).lane .a).snapshot =
      some x ∧ x.released ∧ x.tray ≠ [] ∧ x.state ≠ .payout) ∧
    (∃ x, ((snapped .b .delivering [⟨200, .cashbox⟩] sale).lane .b).snapshot = some x ∧ ¬ x.released ∧ x.tray ≠ [] ∧
      ¬ (x.state = .awaitCard ∨ x.state = .paying ∧ x.sale.coinsReceived = 0)) ∧
    (∃ x, ((snapped .b .awaitCard [] sale).lane .b).snapshot = some x ∧ x.state = .awaitCard) ∧
    (∃ x, ((snapped .a .paying [] sale).lane .a).snapshot = some x ∧ x.state = .paying ∧ x.sale.coinsReceived = 0) :=
  ⟨by decide, by decide +kernel, by decide +kernel, ⟨_, rfl, by decide +kernel⟩, ⟨_, rfl, by decide +kernel⟩,
    ⟨_, rfl, by decide +kernel⟩, ⟨_, rfl, by decide +kernel⟩⟩

/-- Start-up with the warning line held, and with a queued receipt and a reported deferral where SERVICE is entered. -/
def starting (held : Bool) : State :=
  { withEntry 3 { entry 9 false with deferralReported := true } (inPart .starting) with
    warnHeld := held
    tablesCleared := !held
    start := ⟨.reset, ⟨false, false, false, false⟩, 0⟩
    pru := { up.pru with jobs := [job 1 .receipt 0 false, job 2 .ticket 0 false] } }

theorem witness_StartupEndOpensThePart :
    (State.reset.part = .starting ∧ State.reset.anySale = false ∧ State.reset.warnHeld = false) ∧
    ((starting true).part = .starting ∧ (starting true).anySale = false ∧ (starting true).warnHeld = true) ∧
    ((starting false).part = .starting ∧ (starting false).anySale = false ∧ (starting false).tablesCleared = true) ∧
    ((inPart .starting).part = .starting ∧ (inPart .starting).anySale = false ∧ (inPart .starting).tablesCleared = false ∧
      (inPart .starting).validate = none) := by decide +kernel

/-- Remainders 0, below half, half and above half of 10, over an even and an odd whole part. -/
theorem witness_RoundedQuotientByMode : 0 < 10 ∧ 4 < 10 ∧ 5 < 10 ∧ 9 < 10 := by decide

/-- The ceiling met, and the zones above Zmax; a top-up that fits as asked, up to Bmax exactly, and one that does not. -/
theorem witness_PricedAnswersKeepTheirLimits :
    ((testTariff .up factoryMask).unit ∣ weekly.ceiling ∧ (testTariff .up factoryMask).priceTicket weekly 3 1 0 0 65535 =
      .priced ⟨2000, .ofByte 4, 3, some (65535, 65535), 0, none⟩) ∧
    ((testTariff .up factoryMask).unit ∣ peakSingle.ceiling ∧ (testTariff .up factoryMask).priceTicket peakSingle 15 1 3 65000 0 =
      .priced ⟨500, .ofByte 7, 6, none, 0, none⟩) ∧
    (0 < tariff.unit ∧ tariff.priceTopup ⟨40, .topup, 0, 0, 1, 1, false, 0, 0, 500, 5000⟩ 1 2000 17900 =
      .priced ⟨2000, .none, 1, none, 100, some 20000⟩) ∧
    (0 < tariff.unit ∧ tariff.priceTopup ⟨40, .topup, 0, 0, 1, 1, false, 0, 0, 500, 5000⟩ 1 2000 18400 =
      .priced ⟨1600, .ofByte 16, 1, none, 0, some 20000⟩) := by decide +kernel

/-- The ends of a window, and one past each; a class code that agrees on the masked bits, and one that does not. -/
theorem witness_RecognitionTest :
    acceptDisabled.kind = 3 ∧ coin50.kind = 1 ∧ slugCode.kind = 2 ∧
    recognises coin50 .a ⟨500, 0, 99, 0, true⟩ = true ∧ recognises coin50 .b ⟨520, 99, 0, 0, true⟩ = true ∧
    recognises coin50 .a ⟨499, 0, 0, 0, true⟩ = false ∧ recognises coin50 .a ⟨521, 0, 0, 0, true⟩ = false ∧
    recognises slugCode .a ⟨0, 0, 0, 17, true⟩ = true ∧ recognises slugCode .a ⟨0, 0, 0, 16, true⟩ = false ∧
    recognises { coin50 with laneMask := 1 } .b ⟨500, 0, 99, 0, true⟩ = false := by decide +kernel

theorem witness_PlansAreFewestCoinsAndGreatest :
    planFor [⟨.t1, 20, 20⟩] 300 15 = some [(.t1, 15)] ∧ planFor [⟨.t1, 20, 20⟩] 320 15 = none ∧
    (bestPartial [⟨.t1, 20, 20⟩] 320 15).1 < 301 ∧ 301 ≤ 320 := by decide +kernel

/-- A part with two records and a snapshot kept, at each part state that a clause names. -/
def reporting : State :=
  { withJournal 7 2 up with jnu := { (withJournal 7 2 up).jnu with snapshot := some ⟨.zero none, none, .auto⟩ } }

theorem witness_ReportsCarryWhatStands :
    (reporting.Settled ∧ reporting.lki.hold = [] ∧ reporting.takesRequests ∧ reporting.part ≠ .starting ∧
      (∃ bs, reporting.tableEntry 1 0 = some bs) ∧ (∃ bs, reporting.tableEntry 12 15 = some bs) ∧
      15 ≤ 15 ∧ 1 ≤ 4 ∧ 2 ≤ reporting.stored ∧
      (∃ bs, reporting.jnu.totals.read [] 3 0 = some bs) ∧ (∃ x bs, reporting.jnu.snapshot = some x ∧
        x.totals.read (optTime x.stop ++ be 1 x.mode.code) 1 0 = some bs)) ∧
    ((inPart .quiesced).Settled ∧ (inPart .quiesced).lki.hold = [] ∧ (inPart .quiesced).part ≠ .starting) ∧
    ((inPart .starting).Settled ∧ (inPart .starting).lki.hold = []) :=
  ⟨⟨settled_of_check (by decide +kernel), rfl, by decide, by decide, ⟨_, rfl⟩, ⟨_, rfl⟩, by decide, by decide, by decide,
    ⟨_, rfl⟩, ⟨_, _, rfl, rfl⟩⟩, both (by decide +kernel), both (by decide +kernel)⟩

theorem witness_ClockSetSetsTheClock :
    ((inPart .starting).Settled ∧ (inPart .starting).lki.hold = [] ∧ (inPart .starting).part = .starting) ∧
    ((inPart .quiesced).Settled ∧ (inPart .quiesced).lki.hold = [] ∧ (inPart .quiesced).part = .quiesced) ∧
    (up.Settled ∧ up.lki.hold = [] ∧ up.takesRequests ∧ 65535 ≤ 65535 ∧ 86399 ≤ 86399) ∧
    (up.Settled ∧ up.lki.hold = [] ∧ up.takesRequests ∧ (65535 < 65536 ∨ 86399 < 0)) ∧
    (up.Settled ∧ up.lki.hold = [] ∧ up.takesRequests ∧ (65535 < 0 ∨ 86399 < 86400)) ∧
    (up.Settled ∧ up.lki.hold = [] ∧ up.takesRequests ∧ up.clk.set = true ∧ up.clk.day = 20300 ∧ 86399 ≤ 86399 ∧
      20300 ≤ 65535) :=
  ⟨both (by decide +kernel), both (by decide +kernel), both (by decide +kernel), both (by decide +kernel),
    both (by decide +kernel), both (by decide +kernel)⟩

def payingA : State := withSale .a .paying (some 60) [⟨200, .cashbox⟩] .none { sale with coinsReceived := 200 } up

/-- A ceiling that is no multiple of the unit. -/
def invalidUnit : State :=
  { inService with fcu := { tariff with
    products := tariff.products.set 1 (some ⟨31, .pass, 1200, 480, 1, 5, false, 2055, 7, 0, 0⟩) } }

theorem witness_PartStateRequestsAreTaken :
    ((up.Settled ∧ up.lki.hold = [] ∧ up.part ≠ .starting ∧ up.chu.dump = none ∧ up.anySale = false) ∧
    (payingA.Settled ∧ payingA.lki.hold = [] ∧ payingA.part ≠ .starting ∧ payingA.chu.dump = none ∧ payingA.anySale = true) ∧
    (inService.Settled ∧ inService.lki.hold = [] ∧ (inService.part = .inUse ∨ inService.part = .service)) ∧
    ((inPart .shuttingDown).Settled ∧ (inPart .shuttingDown).lki.hold = [] ∧ (inPart .shuttingDown).part = .shuttingDown)) ∧
    ((up.Settled ∧ up.lki.hold = [] ∧ up.part = .inUse ∧ up.bothIdle = true ∧ up.resolving .a = false ∧
      up.resolving .b = false) ∧
    (payingA.Settled ∧ payingA.lki.hold = [] ∧ payingA.part = .inUse ∧ payingA.bothIdle = false) ∧
    (inService.Settled ∧ inService.lki.hold = [] ∧ inService.part = .service ∧ inService.chu.dump = none ∧
      inService.validate = none) ∧
    ((inPart .shuttingDown).Settled ∧ (inPart .shuttingDown).lki.hold = [] ∧ (inPart .shuttingDown).part = .shuttingDown) ∧
    (invalidUnit.Settled ∧ invalidUnit.lki.hold = [] ∧ invalidUnit.part = .service ∧ invalidUnit.chu.dump = none ∧
      invalidUnit.validate = some (.product, 1)) ∧
    (dumping.Settled ∧ dumping.lki.hold = [] ∧ dumping.part = .service ∧ dumping.chu.dump ≠ none) ∧
    (up.Settled ∧ up.lki.hold = [] ∧ up.takesRequests ∧ up.part ≠ .service)) :=
  ⟨⟨both (by decide +kernel), both (by decide +kernel), both (by decide +kernel), both (by decide +kernel)⟩,
    both (by decide +kernel), both (by decide +kernel), both (by decide +kernel), both (by decide +kernel),
    both (by decide +kernel), both (by decide +kernel), both (by decide +kernel)⟩

/-- Index 47 and every field at the top of its range; index 0 of the classes with discount 0, and index 7 with 10,000. A tube
that holds coins keeps its denomination; an empty one may be made unused. -/
theorem witness_TableWritesAreStored :
    ((inService.Settled ∧ inService.lki.hold = [] ∧ inService.part = .service) ∧
    (47 < 48 ∧ (⟨0, 9, 9, 9, 9, 9, 9, 9, 9, 9, 9⟩ : ProductFields).id = 0) ∧
    (productOf ⟨255, 3, 65535, 9999, 15, 15, 1, 999999, 400, 0, 0⟩ =
      some ⟨255, .pass, 65535, 9999, 15, 15, true, 999999, 400, 0, 0⟩ ∧ inService.fcu.idElsewhere 47 255 = false) ∧
    (0 < 8 ∧ 0 ≤ 10000 ∧ 15 < 16 ∧ (0 ≠ 0 ∨ 0 = 0)) ∧ (7 < 8 ∧ 10000 ≤ 10000 ∧ 15 < 16 ∧ (7 ≠ 0 ∨ 10000 = 0)) ∧
    (3 < 4 ∧ (1 = 0 ∨ 1 = 1 ∧ 86399 < 86400 ∧ 86400 ≤ 86400 ∧ 20000 ≤ 20000)) ∧
    (3 < 4 ∧ (1 = 0 ∨ 1 = 1 ∧ 1 ≤ 999999 ∧ 999999 ≤ 999999 ∧ 5000 ≤ 5000)) ∧
    (100 ∈ [1, 2, 5, 10, 20, 25, 50, 100] ∧ Rounding.ofCode 4 = some .up ∧ 1 ≤ 999999 ∧ 31 < 32)) ∧
    ((inService.Settled ∧ inService.lki.hold = [] ∧ inService.part = .service) ∧
    (31 < 32 ∧ acceptWritable ⟨1, 1023, 1023, 1023, 1023, 1023, 1023, 63, 63, 3, 50000, 1, 6⟩ = true) ∧
    (TubeNo.ofCode 1 = some .t1 ∧ (50 = (inService.tube .t1).denom ∨ (inService.tube .t1).count = 0)) ∧
    (TubeNo.ofCode 6 = some .t6 ∧ (0 = (inService.tube .t6).denom ∨ (inService.tube .t6).count = 0) ∧ 1 ≤ 150 ∧
      150 ≤ 150) ∧
    (TubeNo.ofCode 3 = some .t3 ∧ 50000 ≤ 50000 ∧ (50000 = (inService.tube .t3).denom ∨ (inService.tube .t3).count = 0)) ∧
    (1 ≤ 40 ∧ 40 ≤ 40) ∧ (500 ≤ 500 ∧ 500 ≤ 20000 ∧ 20000 ≤ 20000 ∧ 1 ≤ 1) ∧
    (64 ≤ 64 ∧ 10 ≤ 3600 ∧ 3600 ≤ 3600 ∧ (1 = 0 ∨ 1 = 1 ∧ 86399 ≤ 86399)) ∧
    (5 ≤ 120 ∧ 120 ≤ 120 ∧ 10 ≤ 10 ∧ 5 ≤ 60 ∧ 60 ≤ 60 ∧ 1 ≤ 30 ∧ 30 ≤ 30) ∧
    (15 < 16 ∧ NoticeMode.ofCode 3 = some .onBoth)) :=
  ⟨⟨both (by decide +kernel), by decide +kernel⟩, ⟨both (by decide +kernel), by decide +kernel⟩⟩

/-- For each table an entry just outside a range, and a denomination for tube 1, which holds coins. -/
theorem witness_RefusalsChangeNothing :
    (up.Settled ∧ up.lki.hold = [] ∧ up.takesRequests ∧ up.part ≠ .service ∧ (up.lane .a).state ∈
      [LaneState.idle, .enquiry, .recovering]) ∧
    ((withSale .b .delivering none [] .none sale up).Settled ∧ (withSale .b .delivering none [] .none sale up).lki.hold = [] ∧
      (withSale .b .delivering none [] .none sale up).takesRequests ∧
      ((withSale .b .delivering none [] .none sale up).lane .b).state ∈
        [LaneState.delivering, .cardWait, .payout, .refunding]) ∧
    (inService.Settled ∧ inService.lki.hold = [] ∧ inService.takesRequests ∧ inService.part = .service) ∧
    (outOfRange inService 5 (.product ⟨31, 1, 100, 0, 1, 5, 0, 0, 0, 0, 0⟩) ∧ outOfRange inService 0 (.concession 1 0) ∧
      outOfRange inService 0 (.band 1 500 500 1) ∧ outOfRange inService 0 (.tier 1 1000000 0) ∧
      outOfRange inService 0 (.global 30 1 1 0) ∧ outOfRange inService 32 (.acceptance coin50) ∧
      outOfRange inService 7 (.tube 0 1 0 0) ∧ outOfRange inService 0 (.coinLimit 41) ∧
      outOfRange inService 0 (.paper 499 0 1) ∧ outOfRange inService 0 (.journal 65 10 0 0) ∧
      outOfRange inService 0 (.timers 4 10 5 1) ∧ outOfRange inService 16 (.noticeMode 1)) ∧
    (TubeNo.ofCode 1 = some .t1 ∧ 100 ≠ (inService.tube .t1).denom ∧ 0 < (inService.tube .t1).count) :=
  ⟨both (by decide +kernel), both (by decide +kernel), both (by decide +kernel),
    ⟨.inr ⟨by decide, .inr (by decide +kernel)⟩, .inr (.inr (.inr (by decide))), .inr (.inr (by decide)),
      .inr (.inr (by decide)), .inr (.inl (by decide)), .inl (by decide), .inl rfl, .inr (.inr (by decide)),
      .inr (.inl (by decide)), .inr (.inr (.inl (by decide))), .inr (.inl (by decide)), .inl (by decide)⟩,
    by decide +kernel⟩

/-- The tables have their sizes, and a write of each table is taken. -/
theorem witness_WrittenEntriesReadBack :
    (up.fcu.products.length = 48 ∧ up.fcu.classes.length = 8 ∧ up.fcu.bands.length = 4 ∧ up.fcu.tiers.length = 4 ∧
      up.ciu.accept.length = 32 ∧ up.lki.modes.length = 16) ∧
    (∃ t, up.writeTable 47 (.product ⟨0, 0, 0, 0, 0, 0, 0, 0, 0, 0, 0⟩) = .taken t) ∧
    (∃ t, up.writeTable 0 (.product ⟨2, 4, 0, 0, 1, 1, 0, 0, 0, 1, 999999⟩) = .taken t) ∧
    (∃ t, up.writeTable 7 (.concession 10000 15) = .taken t) ∧ (∃ t, up.writeTable 3 (.band 0 9 9 9) = .taken t) ∧
    (∃ t, up.writeTable 3 (.band 1 0 86400 20000) = .taken t) ∧ (∃ t, up.writeTable 0 (.tier 1 999999 5000) = .taken t) ∧
    (∃ t, up.writeTable 0 (.global 100 4 999999 31) = .taken t) ∧ (∃ t, up.writeTable 31 (.acceptance coin50) = .taken t) ∧
    (∃ t, up.writeTable 6 (.tube 50000 150 150 150) = .taken t) ∧ (∃ t, up.writeTable 0 (.coinLimit 40) = .taken t) ∧
    (∃ t, up.writeTable 0 (.paper 20000 0 1) = .taken t) ∧ (∃ t, up.writeTable 0 (.journal 64 10 0 7) = .taken t) ∧
    (∃ t, up.writeTable 0 (.timers 120 300 60 30) = .taken t) ∧ (∃ t, up.writeTable 15 (.noticeMode 3) = .taken t) :=
  ⟨by decide +kernel, ⟨_, rfl⟩, ⟨_, rfl⟩, ⟨_, rfl⟩, ⟨_, rfl⟩, ⟨_, rfl⟩, ⟨_, rfl⟩, ⟨_, rfl⟩, ⟨_, rfl⟩, ⟨_, rfl⟩, ⟨_, rfl⟩,
    ⟨_, rfl⟩, ⟨_, rfl⟩, ⟨_, rfl⟩, ⟨_, rfl⟩⟩

/-- 58 records, and 15 recovery entries that are ATTACHED: the last place of each is free. -/
def nearlyFull : State :=
  { withJournal 1 58 up with crt := { up.crt with
    entries := (List.range 16).map fun i => if i < 15 then some (entry i true) else none } }

/-- The 7 of 8 job slots and reservations that a paper sale may find taken. -/
def sevenJobs : State :=
  { up with pru := { up.pru with
    linesRemaining := 12, printer := .printing
    jobs := (List.range 7).map fun i => job (i + 1) .service 0 (i == 0) } }

def topupProduct : Product := ⟨40, .topup, 0, 0, 1, 1, false, 0, 0, 500, 5000⟩
def ticketProduct : Product := ⟨1, .single, 310, 0, 1, 5, false, 0, 0, 0, 0⟩
def freeProduct : Product := ⟨50, .single, 0, 0, 1, 5, false, 0, 0, 0, 0⟩
def freeOrder : SaleOperands := { ticketOrder with product := 50 }

/-- A mask that masks nothing, so that a price of 0 refuses. -/
def unmasked : State := { up with fcu := { tariff with mask := .none } }

/-- Eight receipt lines of 27 characters fill a body of 236 bytes. -/
def longOrder : SaleOperands := { topupOrder with receipt := 1, lines := List.replicate 8 (List.replicate 27 0x41) }

theorem witness_SaleOpenForCardAwaitsTheCard :
    (nearlyFull.Settled ∧ nearlyFull.lki.hold = [] ∧ requestSize (.saleOpen longOrder) ≤ 240 ∧ longOrder.delivery = 2 ∧
      (nearlyFull.session .b).res = none) ∧ nearlyFull.Admits .b longOrder topupProduct :=
  ⟨both (by decide +kernel), admits_of_check (by refine ⟨?_, ?_, ?_, ?_, ?_, ?_, ?_, ?_, ?_, ?_, ?_, ?_⟩ <;> decide +kernel)⟩

theorem witness_SaleOpenForPaperIsPriced :
    (sevenJobs.Settled ∧ sevenJobs.lki.hold = [] ∧ requestSize (.saleOpen ticketOrder) ≤ 240 ∧ ticketOrder.delivery = 1 ∧
      sevenJobs.fcu.price sevenJobs.clk 1 1 1 0 0 .paper (Payment.ofCode 1) none = .priced ⟨310, .none, 1, none, 0, none⟩ ∧
      0 < 310 ∧ (sevenJobs.session .a).res = none) ∧
    (up.Settled ∧ up.fcu.price up.clk 50 1 1 0 0 .paper (Payment.ofCode 1) none = .priced ⟨0, .ofByte 8, 1, none, 0, none⟩ ∧
      up.pru.hold ≠ .expired) ∧
    (unmasked.Settled ∧ unmasked.fcu.price unmasked.clk 50 1 1 0 0 .paper (Payment.ofCode 1) none =
      .refused .zeroPrice (.ofByte 8)) ∧
    sevenJobs.Admits .a ticketOrder ticketProduct ∧ up.Admits .a freeOrder freeProduct ∧
    unmasked.Admits .a freeOrder freeProduct :=
  ⟨both (by decide +kernel), both (by decide +kernel), both (by decide +kernel),
    admits_of_check (by refine ⟨?_, ?_, ?_, ?_, ?_, ?_, ?_, ?_, ?_, ?_, ?_, ?_⟩ <;> decide +kernel),
    admits_of_check (by refine ⟨?_, ?_, ?_, ?_, ?_, ?_, ?_, ?_, ?_, ?_, ?_, ?_⟩ <;> decide +kernel),
    admits_of_check (by refine ⟨?_, ?_, ?_, ?_, ?_, ?_, ?_, ?_, ?_, ?_, ?_, ?_⟩ <;> decide +kernel)⟩

def awaiting : State := withSale .b .awaitCard (some 30) [] .none { sale with delivery := .card, price := none } up
def payingNone : State := withSale .b .paying (some 60) [] .none sale up

theorem witness_UnpaidSalesCloseAtOnce :
    (awaiting.Settled ∧ (awaiting.lane .b).sale = some { sale with delivery := .card, price := none } ∧
      { sale with delivery := .card, price := none }.shortfall = 0 ∧ (awaiting.lane .b).state = .awaitCard ∧
      awaiting.lki.hold = [] ∧ awaiting.takesRequests ∧ (awaiting.lane .b).timer ≠ none) ∧
    (payingNone.Settled ∧ (payingNone.lane .b).sale = some sale ∧ sale.shortfall = 0 ∧
      (payingNone.lane .b).state = .paying ∧ (payingNone.lane .b).timer ≠ none ∧ sale.coinsReceived = 0) :=
  ⟨both (by decide +kernel), both (by decide +kernel)⟩

def preWriteSale : Sale := { sale with coinsReceived := 310, delivery := .card, waitKind := some .preWrite }
def preWriteA : State := withSale .a .cardWait (some 20) [⟨310, .cashbox⟩] .none preWriteSale up

/-- The same two states with nothing in the tray. -/
def emptyA (st : LaneState) (x : Sale) : State := withSale .a st (some 20) [] .none x up

theorem witness_PaidSalesAreRefunded :
    (payingA.Settled ∧ (payingA.lane .a).sale = some { sale with coinsReceived := 200 } ∧ (payingA.coin .a).tray ≠ [] ∧
      (payingA.lane .a).state = .paying ∧ payingA.lki.hold = [] ∧ payingA.takesRequests ∧ (payingA.lane .a).timer ≠ none ∧
      0 < { sale with coinsReceived := 200 }.coinsReceived) ∧
    (preWriteA.Settled ∧ (preWriteA.lane .a).sale = some preWriteSale ∧ (preWriteA.coin .a).tray ≠ [] ∧
      (preWriteA.lane .a).state = .cardWait ∧ preWriteSale.waitKind = some .preWrite ∧ (preWriteA.lane .a).timer ≠ none) ∧
    ((emptyA .paying sale).Settled ∧ ((emptyA .paying sale).coin .a).tray = [] ∧
      ((emptyA .paying sale).coin .a).trayOp = .none ∧ sale.committed ≤ sale.refundPaid ∧ sale.shortfall = 0 ∧
      ((emptyA .paying sale).lane .a).state = .paying ∧ (emptyA .paying sale).lki.hold = [] ∧
      (emptyA .paying sale).takesRequests) ∧
    ((emptyA .cardWait preWriteSale).Settled ∧ ((emptyA .cardWait preWriteSale).coin .a).tray = [] ∧
      preWriteSale.committed ≤ preWriteSale.refundPaid ∧ ((emptyA .cardWait preWriteSale).lane .a).timer ≠ none) :=
  ⟨both (by decide +kernel), both (by decide +kernel), both (by decide +kernel), both (by decide +kernel)⟩

/-- An enquiry of lane A with 31 notices queued, for the read that ends it. -/
def enquiringA : State :=
  { up.setLane .a { up.lane .a with state := .enquiry, timer := some 10 } with
    lki := { up.lki with tx := some (.notice .quiesced), notices := List.replicate 31 .quiesced } }

/-- An enquiry under way with 31 notices queued. -/
def enquiring : State :=
  { (up.setLane .b { up.lane .b with state := .enquiry, timer := some 10 }).setSession .b
      { Session.start with purpose := .enquiry, phase := .polling } with
    lki := { up.lki with tx := some (.notice .quiesced), notices := List.replicate 31 .quiesced } }

theorem witness_CardReadStartsAnEnquiry :
    (up.Settled ∧ up.part = .inUse ∧ (up.lane .a).state = .idle ∧ (up.coin .a).audit = false ∧
      (up.lane .a).cardFault = false ∧ (up.lane .a).sale = none ∧ (up.session .a).res = none ∧ up.lki.hold = []) ∧
    (enquiring.Settled ∧ (enquiring.lane .b).state = .enquiry ∧ (enquiring.lane .b).timer ≠ none ∧
      (enquiring.lane .b).sale = none ∧ enquiring.lki.notices.length < 32 ∧ enquiring.lki.tx ≠ none) :=
  ⟨both (by decide +kernel), both (by decide +kernel)⟩

def lostHead : State :=
  (up.setCoin .a { up.coin .a with linkUp := false }).setLane .a { up.lane .a with coinFault := true }
def cardFaulted : State := up.setLane .a { up.lane .a with cardFault := true }

/-- The card check of a LANE_RESTORE under way, the coin path found faulted or not. -/
def restoring (still : Bool) (p : BusPhase) : State :=
  { exchanging .frontA .fieldPoll p true (cardFaulted.setSession .a { Session.start with use := some .restore }) with
    restore := some ⟨.a, still⟩
    lki := { up.lki with hold := [⟨20, 1, 9, .laneRestore⟩], conds := [.cardPath .a] } }

theorem witness_LaneRestoreChecksThePaths :
    (up.Settled ∧ up.lki.hold = [] ∧ up.takesRequests ∧ (up.lane .a).cardFault = false ∧
      ((up.coin .a).linkUp = true ∨ (up.lane .a).coinFault = false)) ∧
    (lostHead.Settled ∧ lostHead.lki.hold = [] ∧ lostHead.takesRequests ∧ (lostHead.lane .a).cardFault = false ∧
      (lostHead.coin .a).linkUp = false ∧ (lostHead.lane .a).coinFault = true) ∧
    (cardFaulted.Settled ∧ cardFaulted.lki.hold = [] ∧ cardFaulted.takesRequests ∧ (cardFaulted.lane .a).cardFault = true ∧
      (cardFaulted.session .a).use = none ∧ cardFaulted.dbc.current = none ∧ cardFaulted.dbc.noneWaiting = true) ∧
    ((restoring true .receiving).Settled ∧ (restoring true .receiving).restore = some ⟨.a, true⟩ ∧
      ((restoring true .receiving).session .a).use = some .restore ∧
      ((restoring true .receiving).session .a).behind = none ∧ ((restoring true .receiving).lane .a).cardFault = true ∧
      (restoring true .receiving).lki.hold.head? = some ⟨20, 1, 9, .laneRestore⟩ ∧
      (restoring true .receiving).dbc.current = some ⟨.frontA, .fieldPoll, .receiving, none, true⟩ ∧
      BusReq.fieldPoll.judge (response 1 []) = some .noCard ∧ BusReq.fieldPoll.judge [2, 0] = none) ∧
    ((restoring false .waitingReady).Settled ∧ (restoring false .waitingReady).restore = some ⟨.a, false⟩ ∧
      (restoring false .waitingReady).dbc.current = some ⟨.frontA, .fieldPoll, .waitingReady, none, true⟩) :=
  ⟨both (by decide +kernel), both (by decide +kernel), both (by decide +kernel), both (by decide +kernel),
    both (by decide +kernel)⟩

/-- Eight denominations from 1 to 50,000. -/
theorem witness_CoinInhibitAndAuditAreTaken :
    (up.Settled ∧ up.lki.hold = [] ∧ up.takesRequests ∧ [1, 2, 3, 4, 5, 6, 7, 50000].length ≤ 8 ∧
      (∀ d ∈ [1, 2, 3, 4, 5, 6, 7, 50000], 1 ≤ d ∧ d ≤ 50000) ∧ up.part = .inUse ∧ (up.lane .b).state = .idle) :=
  both (by decide +kernel)

/-- A tray of seven coins, and one coin of 50 below the price. -/
def sevenIn : State :=
  withSale .a .paying (some 60) (List.replicate 7 ⟨20, .cashbox⟩) .none { sale with coinsReceived := 250 } up

theorem witness_CoinBelowThePriceGoesToTheTray :
    sevenIn.Settled ∧ (sevenIn.coin .a).audit = false ∧ (sevenIn.lane .a).state = .paying ∧
      (sevenIn.lane .a).sale = some { sale with coinsReceived := 250 } ∧ sevenIn.gateHeld .a = false ∧
      (sevenIn.search .a ⟨500, 0, 99, 0, true⟩).found = some (0, coin50) ∧ acceptTarget coin50 = some (.tube .t1) ∧
      (sevenIn.coin .a).tray.length < 8 ∧
      { sale with coinsReceived := 250 }.coinsReceived + coin50.denom < { sale with coinsReceived := 250 }.price.getD 0 :=
  both (by decide +kernel)

/-- The final coin with a tray of seven, and with a full one. -/
def lastCoin (n : Nat) : State :=
  withSale .a .paying (some 60) (List.replicate n ⟨20, .cashbox⟩) .none { sale with coinsReceived := 260 } up

/-- The coin limit allows two coins, and 90 takes three. -/
def noChange : State := { payingA with chu := { payingA.chu with coinLimit := 2 } }

theorem witness_FinalCoinLeavesPaying :
    ((lastCoin 7).Settled ∧ ((lastCoin 7).coin .a).audit = false ∧ ((lastCoin 7).lane .a).state = .paying ∧
      ((lastCoin 7).lane .a).sale = some { sale with coinsReceived := 260 } ∧ (lastCoin 7).gateHeld .a = false ∧
      ((lastCoin 7).search .a ⟨520, 0, 99, 0, true⟩).found = some (0, coin50) ∧ acceptTarget coin50 = some (.tube .t1) ∧
      { sale with coinsReceived := 260 }.coinsReceived + coin50.denom = { sale with coinsReceived := 260 }.price.getD 0 ∧
      (lastCoin 7).pru.hold ≠ .expired ∧ { sale with coinsReceived := 260 }.delivery = .paper) ∧
    ((lastCoin 8).Settled ∧ ((lastCoin 8).coin .a).audit = false ∧ ((lastCoin 8).lane .a).state = .paying ∧
      ((lastCoin 8).lane .a).sale = some { sale with coinsReceived := 260 } ∧ (lastCoin 8).gateHeld .a = false ∧
      ((lastCoin 8).search .a ⟨520, 0, 99, 0, true⟩).found = some (0, coin50) ∧ (lastCoin 8).pru.hold ≠ .expired) ∧
    (payingA.Settled ∧ payingA.gateHeld .a = false ∧ (payingA.search .a ⟨600, 0, 99, 0, true⟩).found = some (1, coin200) ∧
      { sale with coinsReceived := 200 }.coinsReceived + coin200.denom = sale.price.getD 0 + 90 ∧
      planFor (payingA.limits .a) 90 payingA.chu.coinLimit = some [(.t1, 1), (.t2, 2)]) ∧
    (noChange.Settled ∧ noChange.gateHeld .a = false ∧ (noChange.search .a ⟨600, 0, 99, 0, true⟩).found = some (1, coin200) ∧
      planFor (noChange.limits .a) 90 noChange.chu.coinLimit = none ∧ (noChange.coin .a).linkUp = true) :=
  ⟨both (by decide +kernel), both (by decide +kernel), both (by decide +kernel), both (by decide +kernel)⟩

def jammed : State := payingNone.setCoin .b { payingNone.coin .b with jam := true }

theorem witness_CoinsNotTakenChangeOnlyTotals :
    (up.Settled ∧ (up.coin .a).linkUp = true ∧ (up.coin .a).audit = false ∧ up.unwanted .a = some .noSale) ∧
    (preWriteA.Settled ∧ (preWriteA.coin .a).linkUp = true ∧ preWriteA.unwanted .a = some .notPaying) ∧
    (jammed.Settled ∧ (jammed.coin .b).linkUp = true ∧ (jammed.lane .b).state = .paying ∧ jammed.gateHeld .b = true) ∧
    (payingNone.Settled ∧ (payingNone.coin .b).linkUp = true ∧ (payingNone.lane .b).state = .paying ∧
      payingNone.gateHeld .b = false ∧ (payingNone.search .b ⟨1023, 0, 0, 16, true⟩).found = none) ∧
    (payingNone.Settled ∧ (payingNone.search .b ⟨1023, 0, 0, 17, true⟩).found = some (2, slugCode) ∧
      acceptTarget slugCode = none) ∧
    ((up.setCoin .a { up.coin .a with audit := true }).Settled ∧
      ((up.setCoin .a { up.coin .a with audit := true }).coin .a).linkUp = true ∧
      ((up.setCoin .a { up.coin .a with audit := true }).coin .a).audit = true) :=
  ⟨both (by decide +kernel), both (by decide +kernel), both (by decide +kernel), both (by decide +kernel),
    both (by decide +kernel), both (by decide +kernel)⟩

def blockedPath : State := up.setCoin .a { up.coin .a with blocked := true }
def jammedClear : State := up.setCoin .a { up.coin .a with jam := true }

def boxOut (s : State) : State := { s with ciu := { s.ciu with boxPresent := false } }

theorem witness_HeadLinkJamAndCashbox :
    ((lostHead.Settled ∧ (lostHead.coin .a).linkUp = false) ∧ (up.Settled ∧ (up.coin .a).linkUp = true) ∧
    (blockedPath.Settled ∧ (blockedPath.coin .a).linkUp = true ∧ (blockedPath.coin .a).counting = true ∧
      (blockedPath.coin .a).blocked = true ∧ (blockedPath.coin .a).jam = false) ∧
    (jammedClear.Settled ∧ (jammedClear.coin .a).linkUp = true ∧ (jammedClear.coin .a).counting = true ∧
      (jammedClear.coin .a).blocked = false ∧ (jammedClear.coin .a).jam = true)) ∧
    (((withJournal 1 63 up).Settled ∧ (withJournal 1 63 up).ciu.boxPresent = true ∧ (withJournal 1 63 up).chu.dump = none ∧
      (withJournal 1 63 up).admits = true) ∧
    ((withJournal 1 64 up).Settled ∧ (withJournal 1 64 up).ciu.boxPresent = true ∧ (withJournal 1 64 up).chu.dump = none ∧
      (withJournal 1 64 up).admits = false) ∧
    ((boxOut up).Settled ∧ (boxOut up).ciu.boxPresent = false)) :=
  ⟨⟨both (by decide +kernel), both (by decide +kernel), both (by decide +kernel), both (by decide +kernel)⟩, ⟨both (by decide +kernel), both (by decide +kernel), both (by decide +kernel)⟩⟩

/-- A release under way with the entries given. -/
def releasing (tray : List TrayEntry) : State :=
  withSale .a .delivering none tray .releasing { sale with coinsReceived := 400, verified := true } up

/-- The last entry of an exact payment, and of one that owes 90 with its reservation. -/
def exactRelease : State :=
  withSale .a .delivering none [⟨50, .tube .t1⟩] .releasing { sale with coinsReceived := 310, verified := true } up
def owing90 : State :=
  { releasing [⟨50, .tube .t1⟩] with chu := { up.chu with res := ⟨[(.t1, 1), (.t2, 2)], []⟩ } }

/-- The last entry is bound for the cashbox, of a sale with a receipt. -/
def withReceipt : Sale := { sale with coinsReceived := 310, verified := true, receipt := true, receiptLines := [[0x41]] }
def boxRelease (x : Sale) : State := withSale .a .delivering none [⟨200, .cashbox⟩] .releasing x up

theorem witness_ReleaseMovesEntriesAndEnds :
    (((releasing [⟨50, .tube .t1⟩, ⟨200, .cashbox⟩]).Settled ∧
      ((releasing [⟨50, .tube .t1⟩, ⟨200, .cashbox⟩]).coin .a).trayOp = .releasing ∧
      ((releasing [⟨50, .tube .t1⟩, ⟨200, .cashbox⟩]).coin .a).tray = ⟨50, .tube .t1⟩ :: ⟨200, .cashbox⟩ :: [] ∧
      (TrayEntry.mk 50 (.tube .t1)).target = .tube .t1) ∧
    ((boxOut (releasing [⟨20, .cashbox⟩, ⟨200, .cashbox⟩])).Settled ∧
      (boxOut (releasing [⟨20, .cashbox⟩, ⟨200, .cashbox⟩])).ciu.boxPresent = false ∧
      (boxOut (releasing [⟨20, .cashbox⟩, ⟨200, .cashbox⟩])).retarget 20 = some .t2) ∧
    ((releasing [⟨200, .cashbox⟩, ⟨200, .cashbox⟩]).Settled ∧
      (releasing [⟨200, .cashbox⟩, ⟨200, .cashbox⟩]).ciu.boxPresent = true) ∧
    ((boxOut (releasing [⟨200, .cashbox⟩, ⟨200, .cashbox⟩])).Settled ∧
      (boxOut (releasing [⟨200, .cashbox⟩, ⟨200, .cashbox⟩])).ciu.boxPresent = false ∧
      (boxOut (releasing [⟨200, .cashbox⟩, ⟨200, .cashbox⟩])).retarget 200 = none)) ∧
    ((exactRelease.Settled ∧ (exactRelease.coin .a).trayOp = .releasing ∧ (exactRelease.coin .a).tray = [⟨50, .tube .t1⟩] ∧
      (exactRelease.lane .a).sale = some { sale with coinsReceived := 310, verified := true } ∧
      exactRelease.releaseTarget ⟨50, .tube .t1⟩ = some (.tube .t1) ∧
      { sale with coinsReceived := 310, verified := true }.changeOwed = 0 ∧ sale.shortfall = 0 ∧ sale.receipt = false) ∧
    ((boxRelease withReceipt).Settled ∧ ((boxRelease withReceipt).coin .a).tray = [⟨200, .cashbox⟩] ∧
      (boxRelease withReceipt).releaseTarget ⟨200, .cashbox⟩ = some .cashbox ∧ withReceipt.changeOwed = 0 ∧
      withReceipt.receipt = true ∧ (boxRelease withReceipt).warned = false ∧
      ((boxRelease withReceipt).setTicketSlot .a false).pru.taken < 8) ∧
    (owing90.Settled ∧ (owing90.coin .a).trayOp = .releasing ∧ (owing90.coin .a).tray = [⟨50, .tube .t1⟩] ∧
      (owing90.lane .a).sale = some { sale with coinsReceived := 400, verified := true } ∧
      0 < { sale with coinsReceived := 400, verified := true }.changeOwed ∧ owing90.chu.orders = [] ∧
      owing90.chu.res.get .a = (.t1, 1) :: [(.t2, 2)] ∧ owing90.chu.res.get .a ≠ []) ∧
    ((boxOut (boxRelease sale)).Settled ∧ (boxOut (boxRelease sale)).releaseTarget ⟨200, .cashbox⟩ = none)) :=
  ⟨⟨both (by decide +kernel), both (by decide +kernel), both (by decide +kernel), both (by decide +kernel)⟩, ⟨both (by decide +kernel), both (by decide +kernel), both (by decide +kernel), both (by decide +kernel)⟩⟩

/-- A tray being tipped out, with nothing committed, and with 50 committed. -/
def returning (committed : Nat) (orders : List Order) : State :=
  { withSale .a .refunding none [⟨200, .cashbox⟩] .returning
      { sale with coinsReceived := 200 + committed, committed := committed, refundOutcome := some .cancelled } up with
    chu := { up.chu with orders := orders, wait := if orders = [] then none else some ⟨.t1, false⟩ } }

theorem witness_ReturnEmptiesTheTray :
    ((returning 0 []).Settled ∧ ((returning 0 []).coin .a).trayOp = .returning ∧ ((returning 0 []).lane .a).sale =
      some { sale with coinsReceived := 200, committed := 0, refundOutcome := some .cancelled } ∧ 0 ≤ sale.refundPaid ∧
      sale.shortfall = 0 ∧ sale.receipt = false) ∧
    ((returning 50 [⟨.change, .b, 40, 20, 0, 0, 0, 0, []⟩]).Settled ∧
      ((returning 50 [⟨.change, .b, 40, 20, 0, 0, 0, 0, []⟩]).coin .a).trayOp = .returning ∧ sale.refundPaid < 50 ∧
      (returning 50 [⟨.change, .b, 40, 20, 0, 0, 0, 0, []⟩]).chu.orders ≠ []) ∧
    ((returning 50 []).Settled ∧ ((returning 50 []).coin .a).trayOp = .returning ∧ sale.refundPaid < 50 ∧
      (returning 50 []).chu.orders = [] ∧ bestPartial ((returning 50 []).limits .a) (50 - sale.refundPaid)
        (returning 50 []).chu.coinLimit = (50, (.t1, 1) :: [])) :=
  ⟨both (by decide +kernel), both (by decide +kernel), both (by decide +kernel)⟩

def doubtSale : Sale :=
  { sale with coinsReceived := 310, delivery := .card, waitKind := some .inDoubt, entryNo := some 15, entryAttached := true }
def inDoubtA : State :=
  withEntry 15 (entry 7 true) (withSale .a .cardWait (some 20) [⟨310, .cashbox⟩] .none doubtSale up)

theorem witness_InDoubtWindowDetachesTheEntry :
    inDoubtA.Settled ∧ (inDoubtA.lane .a).state = .cardWait ∧ (inDoubtA.lane .a).sale = some doubtSale ∧
      doubtSale.waitKind = some .inDoubt ∧ (inDoubtA.lane .a).timer ≠ none ∧ doubtSale.entryNo = some 15 ∧
      inDoubtA.crt.entry 15 = some (entry 7 true) ∧ (inDoubtA.coin .a).tray ≠ [] :=
  both (by decide +kernel)

theorem witness_TubeSetAndDump :
    (inService.Settled ∧ inService.lki.hold = [] ∧ inService.part = .service ∧ TubeNo.ofCode 1 = some .t1 ∧
      inService.chu.dump = none ∧ 60 ≤ (inService.tube .t1).capacity ∧ ((inService.tube .t1).denom = 0 → 60 = 0)) ∧
    (inService.Settled ∧ TubeNo.ofCode 6 = some .t6 ∧ 0 ≤ (inService.tube .t6).capacity ∧ (inService.tube .t6).denom = 0) ∧
    (inService.Settled ∧ (inService.tube .t1).denom ≠ 0 ∧ 1 ≤ 10 ∧ 10 ≤ (inService.tube .t1).count ∧
      inService.ciu.boxPresent = true) :=
  ⟨both (by decide +kernel), both (by decide +kernel), both (by decide +kernel)⟩

/-- The last coin of the plan, with nothing waiting behind; and a dump's coin with more asked, as the last, and after a
removal. -/
def lastOfPlan : State := { paying90 with chu := { paying90.chu with res := ⟨[(.t1, 1)], []⟩ } }
def dumpingOf (d : Dump) : State := { dumping with chu := { dumping.chu with dump := some d } }

theorem witness_ConfirmedCoinIsCounted :
    (paying90.Settled ∧ paying90.chu.dump = none ∧ paying90.chu.orders = ⟨.change, .a, 41, 90, 0, 0, 0, 0, []⟩ :: [] ∧
      paying90.chu.wait = some ⟨.t1, false⟩ ∧ (PayWait.mk .t1 false).tube = .t1 ∧
      planLess .t1 (paying90.chu.res.get .a) = (.t2, 2) :: [] ∧
      (paying90.lane .a).sale = some { sale with coinsReceived := 400, verified := true }) ∧
    (lastOfPlan.Settled ∧ planLess .t1 (lastOfPlan.chu.res.get .a) = []) ∧
    (dumping.Settled ∧ dumping.chu.dump = some ⟨.t1, 3, 10, 0, 0, 0, false⟩ ∧ dumping.chu.wait = some ⟨.t1, false⟩ ∧
      0 + 1 < 3) ∧
    ((dumpingOf ⟨.t1, 3, 10, 2, 0, 0, false⟩).Settled ∧ (dumpingOf ⟨.t1, 3, 10, 2, 0, 0, false⟩).chu.dump.isSome ∧
      3 ≤ 2 + 1) ∧
    ((dumpingOf ⟨.t1, 3, 10, 1, 0, 0, true⟩).Settled ∧
      (dumpingOf ⟨.t1, 3, 10, 1, 0, 0, true⟩).chu.dump.map Dump.stopped = some true) :=
  ⟨both (by decide +kernel), both (by decide +kernel), both (by decide +kernel), both (by decide +kernel),
    both (by decide +kernel)⟩

def secondWait : State := { paying90 with chu := { paying90.chu with wait := some ⟨.t1, true⟩ } }

/-- A dump at its first or second wait, running or stopped. -/
def dumpAt (second stopped : Bool) : State :=
  { dumping with chu := { dumping.chu with dump := some ⟨.t1, 3, 10, 0, 0, 0, stopped⟩, wait := some ⟨.t1, second⟩ } }

theorem witness_MissedPayoutWaits :
    (paying90.Settled ∧ paying90.chu.wait = some ⟨.t1, false⟩ ∧ (PayWait.mk .t1 false).second = false ∧
      paying90.chu.dump = none) ∧
    (dumping.Settled ∧ dumping.chu.wait = some ⟨.t1, false⟩ ∧ dumping.chu.dump.map Dump.stopped = some false) ∧
    (secondWait.Settled ∧ secondWait.chu.wait = some ⟨.t1, true⟩ ∧ (PayWait.mk .t1 true).second = true ∧
      secondWait.chu.dump = none ∧ secondWait.chu.orders = ⟨.change, .a, 41, 90, 0, 0, 0, 0, []⟩ :: []) ∧
    ((dumpAt true false).Settled ∧ (dumpAt true false).chu.wait = some ⟨.t1, true⟩ ∧
      (dumpAt true false).chu.dump.map Dump.stopped = some false) ∧
    ((dumpAt false true).Settled ∧ (dumpAt false true).chu.wait = some ⟨.t1, false⟩ ∧
      (dumpAt false true).chu.dump.map Dump.stopped = some true) ∧
    ((dumpAt true true).Settled ∧ (dumpAt true true).chu.wait = some ⟨.t1, true⟩) :=
  ⟨both (by decide +kernel), both (by decide +kernel), both (by decide +kernel), both (by decide +kernel),
    both (by decide +kernel), both (by decide +kernel)⟩

/-- In SERVICE an entry stands in place 15; at a minute of the clock an expiry waits in place 0. -/
def dropping (n : Nat) : State := withEntry 15 (entry 7 false) (withJournal 1 n inService)
def retrying : State :=
  { withEntry 0 { entry 7 false with expiryPending := true } (withJournal 1 63 up) with
    cdu := ⟨{ Session.start with purpose := .idleScan, phase := .polling },
      { Session.start with purpose := .idleScan, phase := .polling }⟩ }

theorem witness_RecoveryEntriesAreAbandoned :
    ((dropping 63).Settled ∧ (dropping 63).lki.hold = [] ∧ (dropping 63).part = .service ∧ 15 ≤ 15 ∧
      (dropping 63).crt.entry 15 = some (entry 7 false) ∧ (dropping 63).admits = true) ∧
    ((dropping 64).Settled ∧ (dropping 64).admits = false) ∧
    (retrying.Settled ∧ retrying.minute = true ∧ retrying.crt.entries.length = 16 ∧
      retrying.crt.entry 0 = some { entry 7 false with expiryPending := true } ∧ (entry 7 false).attached = false ∧
      retrying.crt.claimed (serial 7) = false ∧ retrying.admits = true) ∧
    (∀ m f, m ≠ 0 → retrying.crt.entry m = some f →
      f.attached = true ∨ f.expiryPending = false ∧ f.expired retrying.timers.holdDays retrying.clk.day = false) ∧
    ({ up with clk := ⟨true, 20300, 61201, true⟩ }.minute = false) := by
  refine ⟨both (by decide +kernel), both (by decide +kernel), both (by decide +kernel), ?_, by decide +kernel⟩
  intro m f hm h
  obtain _ | m := m
  · exact absurd rfl hm
  · have : retrying.crt.entries = some { entry 7 false with expiryPending := true } :: List.replicate 15 none := rfl
    rw [Crt.entry, this, List.getElem?_cons_succ, List.getElem?_replicate] at h
    split at h <;> simp at h

def okCopy (counter : Nat) : Block := purseBlock 100 counter .a 0

/-- Every pair of tags that a clause names, with equal, lower and higher counters; and each verdict. -/
theorem witness_PurseViewAndResolutionVerdict :
    (copyTag (okCopy 40) = .valid ∧ (purseFields (okCopy 40)).counter < (purseFields (okCopy 41)).counter) ∧
    (purseFields (okCopy 40)).counter ≤ (purseFields (okCopy 40)).counter ∧ copyTag emptyBlock = .empty ∧
    copyTag badBlock = .invalid ∧
    (purseView (card badBlock badBlock)).counter = none ∧ (purseView (card (okCopy 57) (okCopy 56))).counter = some 57 ∧
    (entry 7 false).judge (card (okCopy 57) (okCopy 56)) 6100 = .notLanded ∧
    (entry 7 false).judge (card (okCopy 57) (okCopy 56)) 6099 = .conflict .overLimit ∧
    (entry 7 false).judge (card (okCopy 57) (okCopy 58)) 6100 = .landed ∧
    (entry 7 false).judge (card (okCopy 57) (okCopy 59)) 6100 = .conflict .counter ∧
    ((entry 7 false).sequence (card (okCopy 57) (okCopy 56))).isSome = true := by decide +kernel

/-! ### Card sessions -/

/-- A response of lane A's front-end to the exchange given, on a busy line, with what else a clause asks for. -/
theorem answersA {s : State} {u : CardUse} {bytes : List Byte} {r : Response} (q : BusReq) {p : Prop} [Decidable p]
    (h : (settledCheck s && decide ((s.dbc.current = some ⟨.frontA, q, .receiving, none, true⟩ ∧ q.judge bytes = some r ∧
      (s.session .a).use = some u ∧ (s.session .a).discard = false ∧ (s.session .a).restoreWaiting = false ∧
      (s.session .a).behind = none) ∧ p)) = true) : s.FrontEndAnswers .a u bytes r ∧ p := by
  rw [Bool.and_eq_true, decide_eq_true_eq] at h
  obtain ⟨hs, ⟨a, b, c, d, e, f⟩, hp⟩ := h
  exact ⟨⟨settled_of_check hs, ⟨_, a, rfl, rfl, b⟩, c, d, e, f⟩, hp⟩

/-- Lane A's session in an exchange whose response is being clocked in. -/
def inExchange (q : BusReq) (c : Session) (s : State) : State :=
  busyLine (exchanging .frontA q .receiving true (s.setSession .a c))

/-- The card of section 6.6 before and after its purse writes: counters 57 and 58. -/
def card57 : List Block := card (okCopy 57) (okCopy 56)
def card58 : List Block := card (okCopy 57) (okCopy 58)
def otherCard : Block := withCheck (serial 8 ++ List.replicate 8 0)

/-- A session that reads the card of serial 7, with `bs` read so far. -/
def reading (p : Purpose) (bs : List Block) : Session :=
  { Session.start with purpose := p, phase := .reading, serial := some (serial 7), current := bs, use := some .read }

/-- A top-up of 2,000 by coins, and a pass of 1,200 from the card. -/
def topupSale : Sale :=
  { sale with product := 40, kind := .topup, delivery := .card, topup := 2000, price := none, recoveryRes := true }
def passSale : Sale :=
  { sale with product := 31, kind := .pass, delivery := .card, payment := .cardValue, price := none, recoveryRes := true }

/-- Lane A awaits its card, with all but the seventh block of a card read. -/
def cardRead (x : Sale) (bs : List Block) : State :=
  inExchange (.blockRead 6) (reading .saleRead (bs.take 6)) (withSale .a .awaitCard (some 30) [] .none x up)

/-- What the card says of a sale that reads it. -/
def imageFor (bs : List Block) : CardImage := ⟨bs, chosenSlot bs 20300 fun _ => false⟩

def withPurse (balance counter : Nat) : List Block :=
  card (purseBlock balance counter .a 0) (purseBlock balance (counter - 1) .a 0)

/-- Each end of a read: discarded, one block more, the report of an ENQUIRY, the three refusals of a sale and its two goings
on. -/
theorem witness_CardReadGivesItsImage :
    ((inExchange (.blockRead 0) (reading .saleRead []) up).FrontEndAnswers .a .read (response 1 []) .noCard ∧
      cardMissing .noCard = true ∧ ((inExchange (.blockRead 0) (reading .saleRead []) up).session .a).serial =
        some (serial 7) ∧ (reading .saleRead []).res = none ∧ (reading .saleRead []).purpose ≠ .delivery) ∧
    ((inExchange (.blockRead 0) (reading .enquiry []) up).FrontEndAnswers .a .read (response 0 otherCard)
      (.block otherCard) ∧ blockSerial otherCard ≠ some (serial 7)) ∧
    ((inExchange (.blockRead 0) (reading .enquiry []) up).FrontEndAnswers .a .read (response 0 (blockAt card57 0))
      (.block (blockAt card57 0)) ∧ blockSerial (blockAt card57 0) = some (serial 7)) ∧
    ((inExchange (.blockRead 5) (reading .enquiry (card57.take 5)) up).FrontEndAnswers .a .read (response 0 emptyBlock)
      (.block emptyBlock) ∧ (card57.take 5 ++ [emptyBlock]).length < 7 ∧ card57.take 5 ≠ []) ∧
    ((inExchange (.blockRead 6) (reading .enquiry (card57.take 6)) enquiringA).FrontEndAnswers .a .read
      (response 0 emptyBlock) (.block emptyBlock) ∧ (enquiringA.lane .a).sale = none ∧ (card57.take 6 ++ [emptyBlock]).length = 7 ∧
      (inExchange (.blockRead 6) (reading .enquiry (card57.take 6)) enquiringA).lki.notices.length < 32) ∧
    ((cardRead topupSale (withPurse 100 65535)).FrontEndAnswers .a .read (response 0 emptyBlock) (.block emptyBlock) ∧
      { topupSale with serial := some (serial 7) }.cardCheck (imageFor (withPurse 100 65535)) = some .cardExhausted ∧
      (cardRead topupSale (withPurse 100 65535)).lki.notices.length < 20) ∧
    ((cardRead passSale (withPurse 1199 57)).FrontEndAnswers .a .read (response 0 emptyBlock) (.block emptyBlock) ∧
      passSale.cardCheck (imageFor (withPurse 1199 57)) = none ∧ passSale.compareCheck (some 1199) 1200 = some .insufficientValue) ∧
    ((cardRead topupSale (withPurse 19999 57)).FrontEndAnswers .a .read (response 0 emptyBlock) (.block emptyBlock) ∧
      topupSale.cardCheck (imageFor (withPurse 19999 57)) = none ∧
      (cardRead topupSale (withPurse 19999 57)).priceAtCard topupSale (some 19999) = .refused .limit (.ofByte 16)) ∧
    ((cardRead topupSale (withPurse 300 57)).FrontEndAnswers .a .read (response 0 emptyBlock) (.block emptyBlock) ∧
      topupSale.cardCheck (imageFor (withPurse 300 57)) = none ∧ topupSale.payment = .coins ∧
      (cardRead topupSale (withPurse 300 57)).priceAtCard topupSale (some 300) =
        .priced ⟨2000, .none, 1, none, 100, some 2400⟩ ∧ topupSale.compareCheck (some 300) 2000 = none) ∧
    ((cardRead passSale (withPurse 1200 57)).FrontEndAnswers .a .read (response 0 emptyBlock) (.block emptyBlock) ∧
      passSale.cardCheck (imageFor (withPurse 1200 57)) = none ∧ passSale.payment = .cardValue ∧ passSale.delivery = .card ∧
      (cardRead passSale (withPurse 1200 57)).priceAtCard passSale (some 1200) =
        .priced ⟨1200, .none, 1, some (20300, 20306), 0, some 0⟩ ∧ passSale.compareCheck (some 1200) 1200 = none) :=
  ⟨answersA (.blockRead 0) (by decide +kernel), answersA (.blockRead 0) (by decide +kernel),
    answersA (.blockRead 0) (by decide +kernel), answersA (.blockRead 5) (by decide +kernel),
    answersA (.blockRead 6) (by decide +kernel), answersA (.blockRead 6) (by decide +kernel),
    answersA (.blockRead 6) (by decide +kernel), answersA (.blockRead 6) (by decide +kernel),
    answersA (.blockRead 6) (by decide +kernel), answersA (.blockRead 6) (by decide +kernel)⟩

/-- A top-up that has been priced at the card and paid. -/
def deliverySale : Sale :=
  { topupSale with price := some 2000, coinsReceived := 2000, serial := some (serial 7), bonus := 100, purse := 2200 }

/-- The session of a sale in delivery: what its exchange is for, and what has been read. -/
def delivery (u : CardUse) (bs : List Block) : Session :=
  { reading .delivery bs with priced := some ⟨card57, none⟩, use := some u }

/-- Lane A in delivery with an entry reservation. -/
def inDelivery (q : BusReq) (c : Session) (st : LaneState) (tray : List TrayEntry) (x : Sale) : State :=
  inExchange q c { withSale .a st (some 20) tray .none x up with crt := { up.crt with reserved := ⟨true, false⟩ } }

def oneCoin : List TrayEntry := [⟨200, .cashbox⟩]
def waitingCard : Sale := { deliverySale with waitKind := some .preWrite }

/-- A DETACHED entry for the card of serial 7, for which lane B scans. -/
def detachedEntry (s : State) : State :=
  withEntry 15 (entry 7 false) (s.setSession .b { Session.start with purpose := .idleScan, phase := .polling })

/-- The same with a DETACHED entry for the sale's card. -/
def withDetached (tray : List TrayEntry) : State :=
  detachedEntry (inDelivery .fieldPoll (delivery .poll []) .delivering tray deliverySale)

/-- The card answers in DELIVERING and in CARD_WAIT; no card, another card; a DETACHED entry, the tray full or empty; a read that
fails, one that agrees and one that differs. -/
theorem witness_CardDeliveryReadsTheCardAgain :
    (deliverySale.serial = some (serial 7) ∧ deliverySale.delivered = false ∧ waitingCard.delivered = false) ∧
    ((inDelivery .fieldPoll (delivery .poll []) .delivering oneCoin deliverySale).FrontEndAnswers .a .poll
        (response 0 (serial 7)) (.serial (serial 7)) ∧
      (inDelivery .fieldPoll (delivery .poll []) .delivering oneCoin deliverySale).entryCheck .a (serial 7) = .none ∧
      (delivery .poll []).firstBlock.length = 1 ∧ (delivery .poll []).purpose = .delivery ∧ (delivery .poll []).res = none) ∧
    ((inDelivery .fieldPoll (delivery .poll []) .cardWait [] waitingCard).FrontEndAnswers .a .poll
        (response 0 (serial 7)) (.serial (serial 7)) ∧ waitingCard.waitKind = some .preWrite) ∧
    ((inDelivery .fieldPoll (delivery .poll []) .delivering [] deliverySale).FrontEndAnswers .a .poll
        (response 1 []) .noCard ∧ cardMissing .noCard = true) ∧
    ((inDelivery .fieldPoll (delivery .poll []) .cardWait [] waitingCard).FrontEndAnswers .a .poll
        (response 0 (serial 8)) (.serial (serial 8)) ∧ serial 8 ≠ serial 7) ∧
    ((withDetached oneCoin).FrontEndAnswers .a .poll (response 0 (serial 7)) (.serial (serial 7)) ∧
      (withDetached oneCoin).entryCheck .a (serial 7) = .detached 15 ∧ (withDetached oneCoin).lki.notices.length < 20) ∧
    ((withDetached []).FrontEndAnswers .a .poll (response 0 (serial 7)) (.serial (serial 7)) ∧
      deliverySale.committed ≤ deliverySale.refundPaid ∧ deliverySale.shortfall = 0) ∧
    ((inDelivery (.blockRead 1) (delivery .read [emptyBlock]) .delivering oneCoin deliverySale).FrontEndAnswers .a .read
        (response 2 []) .cardError ∧ cardMissing .cardError = true ∧ (delivery .read []).serial = some (serial 7)) ∧
    ((inDelivery (.blockRead 6) (delivery .read (card57.take 6)) .delivering oneCoin deliverySale).FrontEndAnswers .a .read
        (response 0 emptyBlock) (.block emptyBlock) ∧ card57.take 6 ++ [emptyBlock] = card57 ∧
      (inDelivery (.blockRead 6) (delivery .read (card57.take 6)) .delivering oneCoin deliverySale).creation .a (serial 7) =
        some 0 ∧ (purseView card57).counter = some 57 ∧ (purseView card57).target = some 2 ∧
      (WriteSeq.make none (purseBlock 2200 58 .a 20300) 2 (clearing card57 none)).todo =
        [(2, purseBlock 2200 58 .a 20300)]) ∧
    ((inDelivery (.blockRead 6) (delivery .read (card58.take 6)) .delivering [] deliverySale).FrontEndAnswers .a .read
        (response 0 emptyBlock) (.block emptyBlock) ∧ card58.drop 1 ≠ card57.drop 1) :=
  ⟨by decide, answersA .fieldPoll (by decide +kernel), answersA .fieldPoll (by decide +kernel),
    answersA .fieldPoll (by decide +kernel), answersA .fieldPoll (by decide +kernel), answersA .fieldPoll (by decide +kernel),
    answersA .fieldPoll (by decide +kernel), answersA (.blockRead 1) (by decide +kernel),
    answersA (.blockRead 6) (by decide +kernel), answersA (.blockRead 6) (by decide +kernel)⟩

/-- A write sequence of a slot and the purse, and what is left of it. -/
def sequenceOf (todo : List (Nat × Block)) : WriteSeq :=
  ⟨some (1, emptyBlock), okCopy 58, 2, [], todo, 1⟩

/-- The session of a write sequence under way, in delivery. -/
def writing (u : CardUse) (todo : List (Nat × Block)) : Session :=
  { delivery u card57 with phase := .writing, write := some (sequenceOf todo) }

def attachedSale : Sale := { deliverySale with entryNo := some 15, entryAttached := true, recoveryRes := false }

def inWriting (u : CardUse) (q : BusReq) (todo : List (Nat × Block)) (tray : List TrayEntry) : State :=
  withEntry 15 (entry 7 true) (inDelivery q (writing u todo) .delivering tray attachedSale)

/-- A write with one behind it, the last write, each end in doubt, and the end verified with the tray full and empty. -/
theorem witness_CardWritesEndVerifiedOrInDoubt :
    ((inWriting .write (.blockWrite 4 emptyBlock) [(4, emptyBlock), (2, okCopy 58)] oneCoin).FrontEndAnswers .a .write
        (response 0 []) .done ∧ (writing .write [(4, emptyBlock), (2, okCopy 58)]).write =
          some (sequenceOf [(4, emptyBlock), (2, okCopy 58)])) ∧
    ((inWriting .write (.blockWrite 2 (okCopy 58)) [(2, okCopy 58)] oneCoin).FrontEndAnswers .a .write
        (response 0 []) .done ∧ (sequenceOf [(2, okCopy 58)]).todo = [(2, okCopy 58)]) ∧
    ((inWriting .write (.blockWrite 2 (okCopy 58)) [(2, okCopy 58)] oneCoin).FrontEndAnswers .a .write
        (response 1 []) .noCard ∧ attachedSale.delivered = false ∧
      ((inWriting .write (.blockWrite 2 (okCopy 58)) [(2, okCopy 58)] oneCoin).lane .a).state = .delivering ∧
      (inWriting .write (.blockWrite 2 (okCopy 58)) [(2, okCopy 58)] oneCoin).lki.notices.length < 20) ∧
    (inWriting .readBack (.blockRead 2) [] []).FrontEndAnswers .a .readBack (response 2 []) .cardError ∧
    ((inWriting .readBack (.blockRead 2) [] []).FrontEndAnswers .a .readBack (response 0 (okCopy 59)) (.block (okCopy 59)) ∧
      okCopy 59 ≠ (sequenceOf []).purse) ∧
    ((inWriting .readBack (.blockRead 2) [] oneCoin).FrontEndAnswers .a .readBack (response 0 (okCopy 58))
        (.block (sequenceOf []).purse) ∧ attachedSale.entryNo = some 15 ∧
      (inWriting .readBack (.blockRead 2) [] oneCoin).crt.entry 15 = some (entry 7 true) ∧
      ((inWriting .readBack (.blockRead 2) [] oneCoin).coin .a).tray ≠ []) ∧
    ((inWriting .readBack (.blockRead 2) [] []).FrontEndAnswers .a .readBack (response 0 (okCopy 58))
        (.block (sequenceOf []).purse) ∧ { attachedSale.noEntry with verified := true }.changeOwed = 0 ∧
      attachedSale.shortfall = 0) :=
  ⟨answersA (.blockWrite 4 emptyBlock) (by decide +kernel), answersA (.blockWrite 2 (okCopy 58)) (by decide +kernel),
    answersA (.blockWrite 2 (okCopy 58)) (by decide +kernel), (answersA (.blockRead 2) (p := True) (by decide +kernel)).1,
    answersA (.blockRead 2) (by decide +kernel), answersA (.blockRead 2) (by decide +kernel),
    answersA (.blockRead 2) (by decide +kernel)⟩

/-- An idle scan with a DETACHED entry for the card, and lane A in RECOVERING over it. -/
def scanning (n : Nat) (u : CardUse) (q : BusReq) (c : Session) : State :=
  detachedEntry (inExchange q { c with purpose := .idleScan, use := some u }
    ((withJournal 1 n up).setLane .a { up.lane .a with state := if u = .poll then .idle else .recovering }))

/-- The resolution of a DETACHED entry, and of an ATTACHED one. -/
def resolution (detached : Bool) : Resolution := ⟨15, detached, detached, false, some 57⟩

/-- A sale in doubt over its ATTACHED entry, its session in an exchange. -/
def doubting (q : BusReq) (c : Session) (tray : List TrayEntry) : State :=
  withEntry 15 (entry 7 true) (inDelivery q c .cardWait tray { attachedSale with waitKind := some .inDoubt })

def idleReading (bs : List Block) : Session := { reading .idleScan bs with res := some (resolution true) }
def idleWriting (u : CardUse) (todo : List (Nat × Block)) : Session :=
  { writing u todo with purpose := .idleScan, res := some (resolution true) }
def doubtReading (bs : List Block) : Session := { delivery .read bs with res := some (resolution false) }

/-- Taken up and deferred; LANDED, both conflicts of a counter, NOT_LANDED; APPLIED; the two ends without an answer; and the
ATTACHED entry polled, LANDED, in conflict, APPLIED and in doubt again, with the tray full and empty. -/
theorem witness_ResolutionsEndWithTheirVerdict :
    ((scanning 63 .poll .fieldPoll Session.start).FrontEndAnswers .a .poll (response 0 (serial 7)) (.serial (serial 7)) ∧
      (scanning 63 .poll .fieldPoll Session.start).entryCheck .a (serial 7) = .detached 15 ∧
      (scanning 63 .poll .fieldPoll Session.start).crt.entry 15 = some (entry 7 false) ∧
      (scanning 63 .poll .fieldPoll Session.start).admits = true) ∧
    ((scanning 64 .poll .fieldPoll Session.start).FrontEndAnswers .a .poll (response 0 (serial 7)) (.serial (serial 7)) ∧
      (scanning 64 .poll .fieldPoll Session.start).admits = false ∧
      (scanning 64 .poll .fieldPoll Session.start).lki.notices.length < 32) ∧
    ((scanning 3 .read (.blockRead 6) (idleReading (card58.take 6))).FrontEndAnswers .a .read (response 0 emptyBlock)
        (.block emptyBlock) ∧ card58.take 6 ++ [emptyBlock] = card58 ∧ (entry 7 false).judge card58 20000 = .landed ∧
      (resolution true).detached = true ∧ (idleReading []).serial = some (serial 7)) ∧
    ((scanning 3 .read (.blockRead 6) (idleReading ((withPurse 1 60).take 6))).FrontEndAnswers .a .read
        (response 0 emptyBlock) (.block emptyBlock) ∧ (entry 7 false).judge (withPurse 1 60) 20000 = .conflict .counter) ∧
    ((scanning 3 .read (.blockRead 6) (idleReading (card57.take 6))).FrontEndAnswers .a .read (response 0 emptyBlock)
        (.block emptyBlock) ∧ (entry 7 false).judge card57 20000 = .notLanded ∧
      ((entry 7 false).sequence card57).map WriteSeq.todo = some [(2, purseBlock 6100 58 .a 20300)]) ∧
    ((scanning 3 .readBack (.blockRead 2) (idleWriting .readBack [])).FrontEndAnswers .a .readBack (response 0 (okCopy 58))
        (.block (sequenceOf []).purse) ∧ (idleWriting .readBack []).write = some (sequenceOf [])) ∧
    (scanning 3 .read (.blockRead 0) (idleReading [])).FrontEndAnswers .a .read (response 1 []) .noCard ∧
    ((scanning 3 .write (.blockWrite 2 emptyBlock) (idleWriting .write [(2, emptyBlock)])).FrontEndAnswers .a .write
        (response 2 []) .cardError ∧ (resolution true).aside = false) ∧
    ((doubting .fieldPoll (delivery .poll []) oneCoin).FrontEndAnswers .a .poll (response 0 (serial 7)) (.serial (serial 7)) ∧
      (doubting .fieldPoll (delivery .poll []) oneCoin).entryCheck .a (serial 7) = .attached .a ∧
      (doubting .fieldPoll (delivery .poll []) oneCoin).crt.find (serial 7) = some 15) ∧
    ((doubting (.blockRead 6) (doubtReading (card58.take 6)) oneCoin).FrontEndAnswers .a .read (response 0 emptyBlock)
        (.block emptyBlock) ∧ (entry 7 true).judge card58 20000 = .landed ∧ (resolution false).detached = false) ∧
    ((doubting (.blockRead 6) (doubtReading ((withPurse 1 60).take 6)) []).FrontEndAnswers .a .read (response 0 emptyBlock)
        (.block emptyBlock) ∧ (entry 7 true).judge (withPurse 1 60) 20000 = .conflict .counter ∧
      { attachedSale.noEntry with bound := true }.changeOwed = 0) ∧
    (doubting (.blockRead 2) { writing .readBack [] with res := some (resolution false) } []).FrontEndAnswers .a .readBack
        (response 0 (okCopy 58)) (.block (sequenceOf []).purse) ∧
    (doubting (.blockWrite 2 emptyBlock) { writing .write [(2, emptyBlock)] with res := some (resolution false) }
        oneCoin).FrontEndAnswers .a .write (response 1 []) .noCard :=
  ⟨answersA .fieldPoll (by decide +kernel), answersA .fieldPoll (by decide +kernel),
    answersA (.blockRead 6) (by decide +kernel), answersA (.blockRead 6) (by decide +kernel),
    answersA (.blockRead 6) (by decide +kernel), answersA (.blockRead 2) (by decide +kernel),
    (answersA (.blockRead 0) (p := True) (by decide +kernel)).1, answersA (.blockWrite 2 emptyBlock) (by decide +kernel),
    answersA .fieldPoll (by decide +kernel), answersA (.blockRead 6) (by decide +kernel),
    answersA (.blockRead 6) (by decide +kernel), (answersA (.blockRead 2) (p := True) (by decide +kernel)).1,
    (answersA (.blockWrite 2 emptyBlock) (p := True) (by decide +kernel)).1⟩

/-- A session that polls for a sale. -/
def polling : State := up.setSession .a { Session.start with purpose := .saleRead, phase := .polling }

theorem witness_PollAndExchangePhases :
    (polling.Settled ∧ (polling.session .a).phase = .polling ∧ (polling.session .a).purpose ≠ .none ∧
      (polling.session .a).use = none ∧ (polling.lane .a).cardFault = false ∧ polling.dbc.current = none ∧
      polling.dbc.noneWaiting = true) ∧
    ((exchanging .frontB .halt .sending false up).Settled ∧
      (exchanging .frontB .halt .sending false up).dbc.current = some ⟨.frontB, .halt, .sending, none, false⟩) ∧
    ((exchanging .frontB .halt .waitingReady true up).Settled ∧ (exchanging .frontB .halt .waitingReady true up).dbc.current =
      some ⟨.frontB, .halt, .waitingReady, none, true⟩) ∧ (up.Settled ∧ up.dbc.current = none) :=
  ⟨both (by decide +kernel), both (by decide +kernel), both (by decide +kernel), both (by decide +kernel)⟩

theorem witness_ExchangeEndCountsFailures :
    (exchanging .printer .feedCut .waitingReady true up).dbc.current = some ⟨.printer, .feedCut, .waitingReady, none, true⟩ ∧
    (exchanging .printer .feedCut .receiving true up).dbc.current = some ⟨.printer, .feedCut, .receiving, none, true⟩ ∧
    (BusReq.feedCut.judge [] = none ∧ BusReq.feedCut.judge [3, 0, 0] = none) ∧
    BusReq.feedCut.judge (response 0 [2, 1]) = some (.paper .out .open) := by decide +kernel

def statusAsked : State := exchanging .printer .printerStatus .receiving true { up with pru := { up.pru with use := some .status } }

def offline : State := { up with pru := { up.pru with printer := .offline, hold := .running, jobs := [job 1 .ticket 0 false] } }

theorem witness_PrinterStatusTimersAndPaper :
    (statusAsked.Settled ∧ statusAsked.part ≠ .quiesced ∧
      statusAsked.dbc.current = some ⟨.printer, .printerStatus, .receiving, none, true⟩ ∧
      statusAsked.pru.use = some .status ∧ statusAsked.pru.jobs = [] ∧ statusAsked.pru.statusWanted = false ∧
      BusReq.printerStatus.judge (response 0 [1, 0]) = some (.paper .nearEnd .closed)) ∧
    (up.Settled ∧ up.part ≠ .quiesced ∧ up.pru.use = none ∧ up.pru.printer = .ready ∧ up.pru.anyQueued = false ∧
      up.dbc.current = none ∧ up.dbc.noneWaiting = true ∧ up.lki.hold = [] ∧ up.takesRequests) ∧
    (offline.Settled ∧ offline.part ≠ .quiesced ∧ offline.pru.use = none ∧ offline.pru.printer.stopped = true ∧
      offline.pru.hold = .running) :=
  ⟨both (by decide +kernel), both (by decide +kernel), both (by decide +kernel)⟩

/-- A response of the printer in an exchange, with what else a clause asks for. -/
theorem answersP {s : State} {u : PrintUse} {bytes : List Byte} {m : Paper} {c : Cover} (q : BusReq) {p : Prop} [Decidable p]
    (h : (settledCheck s && decide ((s.dbc.current = some ⟨.printer, q, .receiving, none, true⟩ ∧
      q.judge bytes = some (.paper m c) ∧ s.pru.use = some u ∧ s.part ≠ .quiesced) ∧ p)) = true) :
    s.PrinterAnswers u bytes m c ∧ p := by
  rw [Bool.and_eq_true, decide_eq_true_eq] at h
  obtain ⟨hs, ⟨a, b, c, d⟩, hp⟩ := h
  exact ⟨⟨settled_of_check hs, d, ⟨_, a, rfl, rfl, b⟩, c⟩, hp⟩

/-- The printer at work on a job of twelve lines, a service job behind it. -/
def printing (u : PrintUse) (q : BusReq) (ph : BusPhase) (j : Job) (s : State) : State :=
  busyLine (exchanging .printer q ph true { s with pru := { s.pru with
    printer := .printing, jobs := [j, job 6 .service 0 false], use := some u, linesRemaining := 401
    notes := [⟨.a, 41, 30, 5⟩] } })

/-- A line that has had no answer, the second failure in a row. -/
def unanswered : State :=
  let s := printing .line (.line []) .waitingReady (job 5 .receipt 0 true) up
  { s with dbc := { s.dbc with counts := ⟨0, 0, 1⟩ } }

/-- The sale of a ticket, its tray full or empty. -/
def ticketed (tray : List TrayEntry) : State :=
  withSale .a .delivering none tray .none { sale with coinsReceived := 310 } up

/-- A line with more behind it, and the last one; a stop in a receipt, in a note, and in a ticket with the tray full and empty;
the cut of a note with the printer still READY, and of a ticket; and a line that the printer does not answer, at the second
failure in a row. -/
theorem witness_PrintingGoesLineByLine :
    ((printing .line (.line []) .receiving (job 5 .receipt 10 true) up).PrinterAnswers .line (response 0 [1, 0]) .nearEnd
        .closed ∧ (printing .line (.line []) .receiving (job 5 .receipt 10 true) up).pru.current = some (job 5 .receipt 10 true) ∧
      (printing .line (.line []) .receiving (job 5 .receipt 10 true) up).pru.statusWanted = false ∧ Paper.nearEnd ≠ .out ∧
      (job 5 .receipt 10 true).lines[11]? = some []) ∧
    ((printing .line (.line []) .receiving (job 5 .note 11 true) up).PrinterAnswers .line (response 0 [0, 0]) .present .closed ∧
      (job 5 .note 11 true).lines.length ≤ 12) ∧
    ((printing .line (.line []) .receiving (job 5 .receipt 0 true) up).PrinterAnswers .line (response 0 [2, 0]) .out .closed ∧
      (job 5 .receipt 0 true).kind ≠ .ticket) ∧
    ((printing .line (.line []) .receiving (job 5 .note 3 true) up).PrinterAnswers .line (response 0 [0, 1]) .present .open ∧
      (job 5 .note 3 true).kind = .note) ∧
    ((printing .line (.line []) .receiving (job 5 .ticket 3 true) (ticketed oneCoin)).PrinterAnswers .line (response 0 [2, 1])
        .out .open ∧ (job 5 .ticket 3 true).lane = some .a ∧
      (printing .line (.line []) .receiving (job 5 .ticket 3 true) (ticketed oneCoin)).awaitsTicket .a = true ∧
      ((ticketed oneCoin).coin .a).tray ≠ []) ∧
    ((printing .line (.line []) .receiving (job 5 .ticket 3 true) (ticketed [])).PrinterAnswers .line (response 0 [2, 1])
        .out .open ∧ ((ticketed []).coin .a).tray = [] ∧ sale.committed ≤ sale.refundPaid ∧ sale.shortfall = 0) ∧
    ((printing .feedCut .feedCut .receiving (job 5 .note 12 true) up).PrinterAnswers .feedCut (response 0 [0, 0]) .present
        .closed ∧ printerOf .present .closed = .ready ∧
      (printing .feedCut .feedCut .receiving (job 5 .note 12 true) up).pru.noteOf 5 = some ⟨.a, 41, 30, 5⟩ ∧
      ∀ k ∈ (printing .feedCut .feedCut .receiving (job 5 .note 12 true) up).pru.jobs, k.printing = true → k.id = 5) ∧
    ((printing .feedCut .feedCut .receiving (job 5 .ticket 12 true) (ticketed oneCoin)).PrinterAnswers .feedCut
        (response 0 [2, 0]) .out .closed ∧ printerOf .out .closed ≠ .ready ∧
      (printing .feedCut .feedCut .receiving (job 5 .ticket 12 true) (ticketed oneCoin)).awaitsTicket .a = true) ∧
    ((printing .feedCut .feedCut .receiving (job 5 .ticket 12 true) (ticketed [])).PrinterAnswers .feedCut (response 0 [0, 0])
        .present .closed ∧ { sale with coinsReceived := 310 }.changeOwed = 0) ∧
    (unanswered.Settled ∧ unanswered.part ≠ .quiesced ∧
      unanswered.dbc.current = some ⟨.printer, .line [], .waitingReady, none, true⟩ ∧ unanswered.pru.use = some .line ∧
      unanswered.dbc.counts.get .printer < 2 ∧ unanswered.pru.current = some (job 5 .receipt 0 true) ∧
      (job 5 .receipt 0 true).lines[0]? = some []) :=
  ⟨answersP (.line []) (by decide +kernel), answersP (.line []) (by decide +kernel), answersP (.line []) (by decide +kernel),
    answersP (.line []) (by decide +kernel), answersP (.line []) (by decide +kernel), answersP (.line []) (by decide +kernel),
    answersP .feedCut (by decide +kernel), answersP .feedCut (by decide +kernel), answersP .feedCut (by decide +kernel),
    both (by decide +kernel)⟩

/-- Forty lines of four characters and one of 38 fill a body of 240 bytes with the count. -/
def fortyLines : List (List Byte) := List.replicate 39 (List.replicate 5 0x7E) ++ [List.replicate 4 0x20]
def eightJobs : State :=
  { up with pru := { up.pru with
    printer := .printing
    jobs := (List.range 8).map fun i => job (i + 1) (if i = 7 then .ticket else .service) 0 (i == 0) } }

theorem witness_PrintTextAndCancel :
    (sevenJobs.Settled ∧ sevenJobs.lki.hold = [] ∧ sevenJobs.takesRequests ∧ fortyLines ≠ [] ∧ fortyLines.length ≤ 40 ∧
      fortyLines.all lineOk = true ∧ linesSize fortyLines = 239 ∧ sevenJobs.part ≠ .shuttingDown ∧ sevenJobs.pru.taken < 8) ∧
    (eightJobs.Settled ∧ eightJobs.lki.hold = [] ∧ eightJobs.takesRequests ∧ eightJobs.part ≠ .shuttingDown ∧
      8 ≤ eightJobs.pru.taken) ∧
    (eightJobs.pru.jobs.find? (fun k => k.id = 2) = some (job 2 .service 0 false) ∧ (job 2 .service 0 false).kind.first = false ∧
      (job 2 .service 0 false).printing = false ∧
      eightJobs.pru.jobs.find? (fun k => k.id = 1) = some (job 1 .service 0 true) ∧ (job 1 .service 0 true).printing = true ∧
      eightJobs.pru.jobs.find? (fun k => k.id = 8) = some (job 8 .ticket 0 false) ∧
      (job 8 .ticket 0 false).kind.first = true) :=
  ⟨both (by decide +kernel), both (by decide +kernel), by decide +kernel⟩

theorem witness_JournalReleaseRemovesTheOldest :
    ((inPart .starting).Settled ∧ (inPart .starting).lki.hold = [] ∧ (inPart .starting).part = .starting) ∧
    (up.Settled ∧ up.lki.hold = [] ∧ up.part ≠ .starting ∧ (0 = 0 ∨ 64 < 0) ∧ (65 = 0 ∨ 64 < 65)) ∧
    ((withJournal 5 64 up).Settled ∧ (withJournal 5 64 up).lki.hold = [] ∧ (withJournal 5 64 up).part ≠ .starting ∧ 1 ≤ 64 ∧
      64 ≤ 64 ∧ (withJournal 5 64 up).jnu.journal.head?.map Record.seq = some 5 ∧ 64 ≤ (withJournal 5 64 up).stored) ∧
    ((withJournal 5 3 up).Settled ∧ (withJournal 5 3 up).jnu.journal.head?.map Record.seq ≠ some 4 ∧
      (withJournal 5 3 up).jnu.journal.head?.map Record.seq = some 5 ∧ (withJournal 5 3 up).stored < 4) ∧
    (up.Settled ∧ up.jnu.journal.head?.map Record.seq ≠ some 1) :=
  ⟨both (by decide +kernel), both (by decide +kernel), both (by decide +kernel), both (by decide +kernel),
    both (by decide +kernel)⟩

/-- The automatic time is now; a snapshot of yesterday waits; the journal has one place left, or none. -/
def dueNow (n : Nat) : State :=
  { withJournal 1 n up with jnu := { (withJournal 1 n up).jnu with autoTime := some 61200, lastAutoDay := some 20299 } }
def waitingAuto (n : Nat) : State := { withJournal 1 n up with jnu := { (withJournal 1 n up).jnu with retry := some 20299 } }

theorem witness_SnapshotsTakeTheTotals :
    ((waitingAuto 63).Settled ∧ (waitingAuto 63).lki.hold = [] ∧ (waitingAuto 63).takesRequests ∧
      (waitingAuto 63).admits = true ∧ (waitingAuto 63).jnu.retry = some 20299 ∧ (waitingAuto 63).minute = true) ∧
    ((waitingAuto 64).Settled ∧ (waitingAuto 64).admits = false ∧ (waitingAuto 64).minute = true) ∧
    ((dueNow 63).Settled ∧ (dueNow 63).clk.set = true ∧ (dueNow 63).clk.counted = true ∧
      (dueNow 63).jnu.autoTime = some (dueNow 63).clk.second ∧ (dueNow 63).takesRequests ∧
      (dueNow 63).jnu.lastAutoDay ≠ some (dueNow 63).clk.day ∧ (dueNow 63).admits = true) ∧
    ((dueNow 64).Settled ∧ (dueNow 64).jnu.autoTime = some (dueNow 64).clk.second ∧ (dueNow 64).admits = false) :=
  ⟨both (by decide +kernel), both (by decide +kernel), both (by decide +kernel), both (by decide +kernel)⟩

/-- A receiver that has taken these bytes after a start byte. -/
def receiving (bs : List Byte) : State := { up with lki := { up.lki with receiver := some bs } }

/-- One frame in service, its reply on the line. -/
def oneHeld : State :=
  { up with lki := { up.lki with hold := [⟨2, 0, 1, .identify⟩], tx := some (.reply ⟨2, 0, 1, .ok, []⟩) } }

theorem witness_LinkTakesBytesAndUnknownRequests :
    (up.Settled ∧ up.lki.hold = [] ∧ 0x7F < 0x80 ∧ requestOf 0x7F (List.replicate 240 0) = .unknown ∧
      (List.replicate 240 (0 : Byte)).length ≤ 240 ∧ up.lki.tx = none ∧ up.lki.receiver = none) ∧
    ((busyLine up).Settled ∧ (busyLine up).lki.tx ≠ none) ∧
    (oneHeld.Settled ∧ oneHeld.lki.hold = [⟨2, 0, 1, .identify⟩] ∧
      carriage (.saleOpen 1 9 longOrder) = some ⟨1, 9, .saleOpen longOrder⟩ ∧ requestSize (.saleOpen longOrder) ≤ 240) ∧
    (fullLink.Settled ∧ 2 ≤ fullLink.lki.hold.length ∧ carriage (.clockSet 0 3 1 1) = some ⟨0, 3, .clockSet 1 1⟩) ∧
    (up.Settled ∧ 240 < requestSize (.printText (List.replicate 240 [])) ∧
      carriage (.printText 0 1 (List.replicate 240 [])) = some ⟨0, 1, .printText (List.replicate 240 [])⟩) ∧
    ((receiving []).Settled ∧ (receiving []).lki.receiver = some [] ∧ field ([] ++ [240]) 0 1 ≤ 240 ∧
      ([] ++ [(240 : Byte)]).length ≠ field ([] ++ [240]) 0 1 + 6 ∧ 240 < field ([] ++ [241]) 0 1) ∧
    ((receiving [0, 1, 0, 9, 0xFF]).Settled ∧
      ([0, 1, 0, 9, 0xFF] ++ [(0xFF : Byte)]).length = field ([0, 1, 0, 9, 0xFF] ++ [0xFF]) 0 1 + 6 ∧
      be 2 (crc16 (([0, 1, 0, 9, 0xFF] : List Byte).take (5 - 1))).toNat ≠ ([0, 1, 0, 9, 0xFF] ++ [(0xFF : Byte)]).drop (5 - 1)) :=
  ⟨both (by decide +kernel), both (by decide +kernel), both (by decide +kernel), both (by decide +kernel),
    both (by decide +kernel), both (by decide +kernel), both (by decide +kernel)⟩

/-- Every frame has a last byte. -/
theorem frame_has_last (code lane tag : Nat) (body : List Byte) :
    ∃ bs b, hostFrame code lane tag body = 0xA5 :: (bs ++ [b]) := by
  have h : ∀ xs : List Byte, ∀ n, ∃ bs b, xs ++ be 2 n = bs ++ [b] := fun xs n =>
    ⟨xs ++ [BitVec.ofNat 8 (n / 256 ^ 1)], BitVec.ofNat 8 (n / 256 ^ 0), by simp [be]⟩
  obtain ⟨bs, b, e⟩ := h (be 1 body.length ++ be 1 code ++ be 1 lane ++ be 1 tag ++ body)
    (crc16 (be 1 body.length ++ be 1 code ++ be 1 lane ++ be 1 tag ++ body)).toNat
  exact ⟨bs, b, by rw [← e]; rfl⟩

/-- The longest frame, and the shortest. -/
theorem witness_FormedFramesAreAccepted :
    (0x7F < 256 ∧ 255 < 256 ∧ (List.replicate 240 (0xA5 : Byte)).length ≤ 240) ∧
    (∃ bs b, hostFrame 0x7F 255 255 (List.replicate 240 0xA5) = 0xA5 :: (bs ++ [b]) ∧
      (receiving bs).lki.receiver = some bs) ∧
    (∃ bs b, hostFrame 0 0 0 [] = 0xA5 :: (bs ++ [b]) ∧ (receiving bs).lki.receiver = some bs) := by
  obtain ⟨bs, b, e⟩ := frame_has_last 0x7F 255 255 (List.replicate 240 0xA5)
  obtain ⟨cs, c, f⟩ := frame_has_last 0 0 0 []
  exact ⟨by rw [List.length_replicate]; decide, ⟨bs, b, e, rfl⟩, cs, c, f, rfl⟩

def sending (h : List Held) (r : Option Reply) (reset : Bool) : State :=
  { up with
    resetPending := reset
    lki := { up.lki with tx := some (.reply ⟨2, 0, 1, .ok, []⟩), hold := h, ready := r, notices := [.quiesced] } }

theorem witness_TransmitEndSendsTheNext :
    ((busyLine up).Settled ∧ (busyLine up).lki.tx = some (.notice .quiesced)) ∧
    ((sending [⟨2, 0, 1, .identify⟩] none false).Settled ∧
      (sending [⟨2, 0, 1, .identify⟩] none false).lki.tx = some (.reply ⟨2, 0, 1, .ok, []⟩) ∧
      (sending [⟨2, 0, 1, .identify⟩] none false).resetPending = false ∧
      (sending [⟨2, 0, 1, .identify⟩] none false).lki.ready = none) ∧
    ((sending [⟨2, 0, 1, .identify⟩, ⟨1, 0, 2, .status⟩] none false).Settled ∧
      (sending [⟨2, 0, 1, .identify⟩, ⟨1, 0, 2, .status⟩] none false).lki.hold =
        [⟨2, 0, 1, .identify⟩, ⟨1, 0, 2, .status⟩]) ∧
    ((sending [⟨2, 0, 1, .identify⟩] none true).Settled ∧ (sending [⟨2, 0, 1, .identify⟩] none true).resetPending = true) :=
  ⟨both (by decide +kernel), both (by decide +kernel), both (by decide +kernel), both (by decide +kernel)⟩

def atSecond (day second : Nat) : State :=
  withEntry 2 (entry 7 true) { up with clk := ⟨true, day, second, true⟩ }

theorem witness_ClockAndWaitTimer :
    ((atSecond 20300 86398).Settled ∧ (atSecond 20300 86398).clk.set = true ∧ (atSecond 20300 86398).clk.second < 86399) ∧
    ({ up with clk := ⟨false, 0, 0, false⟩ }.Settled ∧ { up with clk := ⟨false, 0, 0, false⟩ }.clk.set = false) ∧
    ((atSecond 65535 86399).Settled ∧ (atSecond 65535 86399).clk.second = 86399 ∧
      (atSecond 65535 86399).crt.entry 2 = some (entry 7 true) ∧ (entry 7 true).attached = true) ∧
    ((atSecond 20306 86399).Settled ∧ (entry 7 false).expired (atSecond 20306 86399).timers.holdDays 20307 = false) ∧
    ((withJournal 1 3 up).Settled ∧ (withJournal 1 3 up).jnu.waitTimer.runs = true) :=
  ⟨both (by decide +kernel), both (by decide +kernel), both (by decide +kernel), both (by decide +kernel),
    both (by decide +kernel)⟩

/-- Lane A pays with a coin in its tray, lane B awaits its card. -/
def interrupted : State := withSale .b .awaitCard (some 30) [] .none { sale with delivery := .card, price := none } payingA

theorem witness_PowerWarningInterruptsSales :
    ((inPart .starting).Settled ∧ (inPart .starting).part = .starting) ∧
    ((inPart .quiesced).Settled ∧ (inPart .quiesced).part = .quiesced) ∧
    (interrupted.Settled ∧ interrupted.takesRequests ∧ (interrupted.lane .b).state = .awaitCard ∧
      (interrupted.lane .a).sale = some { sale with coinsReceived := 200 } ∧ (interrupted.lane .a).state = .paying ∧
      0 < { sale with coinsReceived := 200 }.coinsReceived ∧ (interrupted.coin .a).tray ≠ []) ∧
    (payingNone.Settled ∧ payingNone.takesRequests ∧ (payingNone.lane .b).state = .paying ∧ sale.coinsReceived = 0 ∧
      (payingNone.lane .a).state ∉ [LaneState.awaitCard, .paying]) :=
  ⟨both (by decide +kernel), both (by decide +kernel), both (by decide +kernel), both (by decide +kernel)⟩

/-- SHUTTING_DOWN with a queued note at a printer out of paper. -/
def noteWaits : State :=
  { busyLine (inPart .shuttingDown) with pru := { up.pru with printer := .paperOut, jobs := [job 3 .note 0 false] } }

theorem witness_QuiescedIsEnteredWhenDone :
    (noteWaits.Settled ∧ noteWaits.part = .shuttingDown ∧ noteWaits.shutdownDone = true ∧
      noteWaits.lki.notices.length + noteWaits.pru.jobs.length < 32 ∧ noteWaits.lki.tx ≠ none) ∧
    (payingA.Settled ∧ (payingA.part ≠ .shuttingDown ∨ payingA.shutdownDone = false)) ∧
    ({ payingA with part := .shuttingDown }.Settled ∧ { payingA with part := .shuttingDown }.shutdownDone = false) :=
  ⟨both (by decide +kernel), both (by decide +kernel), both (by decide +kernel)⟩

theorem witness_IdlingAndEventsOutOfPlace :
    up.Settled ∧ up.pending = [] ∧ (up.lane .a).timer = none ∧ (up.coin .a).trayOp = .none ∧ up.chu.wait = none ∧
      up.lki.tx = none ∧ up.dbc.current = none :=
  both (by decide +kernel)

end Sys2Proof.Tests
end

section
/-! Fare calculation, stage 6: the rounded quotient of R41, mode by mode, over the whole part `f` and the remainder `r`. -/

namespace Sys2Proof.Machine

section
variable {f r m : Nat}

/-- R41's `f` and `r` are what the model computes by `/` and `%`. -/
theorem wholePart_and_remainder (hr : r < m) : (f * m + r) / m = f ∧ (f * m + r) % m = r := by
  rw [Nat.div_mod_unique (Nat.zero_lt_of_lt hr)]
  exact ⟨by ring, hr⟩

theorem roundQuotient_down (hr : r < m) : roundQuotient .down (f * m + r) m = f :=
  (wholePart_and_remainder hr).1

theorem roundQuotient_up (hr : r < m) :
    roundQuotient .up (f * m + r) m = if r = 0 then f else f + 1 := by
  obtain ⟨hdiv, hmod⟩ := wholePart_and_remainder (f := f) hr
  simp only [roundQuotient, hdiv, hmod]
  obtain zero | pos := Nat.eq_zero_or_pos r
  · simp [zero]
  · simp [pos, pos.ne']

/-- A tie goes up: the model's test is `m ≤ 2 * r`, the complement of the table's `2 * r < m`. -/
theorem roundQuotient_nearestUp (hr : r < m) :
    roundQuotient .nearestUp (f * m + r) m = if 2 * r < m then f else f + 1 := by
  obtain ⟨hdiv, hmod⟩ := wholePart_and_remainder (f := f) hr
  simp only [roundQuotient, hdiv, hmod]
  obtain below | tieOrAbove := Nat.lt_or_ge (2 * r) m
  · simp [below, below.not_ge]
  · simp [tieOrAbove, tieOrAbove.not_gt]

theorem roundQuotient_nearestEven (hr : r < m) :
    roundQuotient .nearestEven (f * m + r) m =
      if 2 * r < m then f else if m < 2 * r then f + 1 else if 2 ∣ f then f else f + 1 := by
  obtain ⟨hdiv, hmod⟩ := wholePart_and_remainder (f := f) hr
  simp only [roundQuotient, hdiv, hmod]
  obtain below | tie | above := Nat.lt_trichotomy (2 * r) m
  · simp [below, below.not_gt, below.ne]
  · simp [tie, Nat.dvd_iff_mod_eq_zero]
  · simp [above, above.not_gt]

end

/-- Settles O14: R41's table, one lemma per mode. -/
theorem roundedQuotientByMode : Obligations.RoundedQuotientByMode := by
  refine ⟨fun _ _ _ => rfl, fun f r m hr => ?_⟩
  exact ⟨roundQuotient_down hr, roundQuotient_up hr, roundQuotient_nearestUp hr, roundQuotient_nearestEven hr⟩

end Sys2Proof.Machine
end

section
/-! Coin acceptance: which coin records an acceptance entry recognises (R57), kind by kind. -/

namespace Sys2Proof.Machine

theorem laneNamed_iff (e : AcceptFields) (l : Lane) :
    laneNamed e l = true ↔ e.laneMask = l.code ∨ e.laneMask = 3 := by
  simp [laneNamed, or_comm]

/-- R57 compares the class code and the entry's code bit by bit under the mask; the model compares two masked numbers. -/
theorem codeAgrees_iff (code mask cls : Nat) :
    codeAgrees code mask cls = true ↔ ∀ i, mask.testBit i = true → cls.testBit i = code.testBit i := by
  have maskedBits : codeAgrees code mask cls = true ↔
      ∀ i, (code.testBit i && mask.testBit i) = (cls.testBit i && mask.testBit i) := by
    simp only [codeAgrees, decide_eq_true_eq, ← Nat.testBit_and]
    exact ⟨fun same i => by rw [same], Nat.eq_of_testBit_eq⟩
  rw [maskedBits]
  refine forall_congr' fun i => ?_
  cases mask.testBit i
  · simp
  · simp [eq_comm]

section
variable {e : AcceptFields}

theorem recognises_disabled (l : Lane) (c : CoinRec) (disabled : e.kind = 3) : recognises e l c = false := by
  simp [recognises, disabled]

theorem recognises_window (l : Lane) (c : CoinRec) (window : e.kind = 1) :
    recognises e l c = true ↔ (e.laneMask = l.code ∨ e.laneMask = 3) ∧
      (e.diamLo ≤ c.diam ∧ c.diam ≤ e.diamHi) ∧ (e.thickLo ≤ c.thick ∧ c.thick ≤ e.thickHi) ∧
      (e.condLo ≤ c.cond ∧ c.cond ≤ e.condHi) := by
  simp [recognises, window, laneNamed_iff, and_assoc]

theorem recognises_code (l : Lane) (c : CoinRec) (code : e.kind = 2) :
    recognises e l c = true ↔ (e.laneMask = l.code ∨ e.laneMask = 3) ∧
      ∀ i, e.codeMask.testBit i = true → c.cls.testBit i = e.code.testBit i := by
  simp [recognises, code, laneNamed_iff, codeAgrees_iff]

end

/-- Settles O16: R57's test, one lemma per kind of entry. -/
theorem recognitionTest : Obligations.RecognitionTest := fun _ l c =>
  ⟨recognises_disabled l c, recognises_window l c, recognises_code l c⟩

end Sys2Proof.Machine
end

section
/-! JOURNAL_RELEASE (R177): what its owner answers, check by check, and the command that carries it. -/

namespace Sys2Proof.Machine

/-- R175's timer is held when the release empties the journal: for a release of at most what is stored, of all of it. -/
theorem State.releaseRecords_jnu {s : State} {n : Nat} (run : s.part ≠ .starting) (fits : n ≤ s.stored) :
    (s.releaseRecords n).jnu = { s.jnu with
      journal := s.jnu.journal.drop n
      armed := s.jnu.armed || decide (s.stored - n < s.jnu.inForce)
      waitTimer := if n = s.stored then .held s.jnu.waitTime else s.jnu.waitTimer } := by
  have left : (s.jnu.journal.drop n).length = s.stored - n := List.length_drop
  have emptied : s.jnu.journal.drop n = [] ∧ s.part ≠ .starting ↔ n = s.stored :=
    (and_iff_left run).trans (List.drop_eq_nil_iff.trans ⟨fits.antisymm, fun all => all.ge⟩)
  simp only [State.releaseRecords]
  rw [left, if_congr emptied rfl rfl]

theorem State.releaseRecords_stored (s : State) (n : Nat) : (s.releaseRecords n).stored = s.stored - n :=
  List.length_drop

/-! ### The owner's checks, in R177's order -/

section
variable {s : State} {first n : Nat}

theorem State.takeJournalRelease_outOfRange (bad : n = 0 ∨ 64 < n) :
    s.takeJournalRelease first n = s.reply .range [] := if_pos bad

theorem State.takeJournalRelease_mismatch (lo : 1 ≤ n) (hi : n ≤ 64)
    (other : s.jnu.journal.head?.map Record.seq ≠ some first) :
    s.takeJournalRelease first n = s.reply .sequenceMismatch [] := by
  have inRange : ¬ (n = 0 ∨ 64 < n) := by omega
  rw [State.takeJournalRelease, if_neg inRange, if_pos other]

theorem State.takeJournalRelease_aboveStored (lo : 1 ≤ n) (hi : n ≤ 64)
    (oldest : s.jnu.journal.head?.map Record.seq = some first) (above : s.stored < n) :
    s.takeJournalRelease first n = s.reply .range [] := by
  have inRange : ¬ (n = 0 ∨ 64 < n) := by omega
  rw [State.takeJournalRelease, if_neg inRange, if_neg (not_not_intro oldest), if_pos above]

theorem State.takeJournalRelease_taken (lo : 1 ≤ n) (hi : n ≤ 64)
    (oldest : s.jnu.journal.head?.map Record.seq = some first) (fits : n ≤ s.stored) :
    s.takeJournalRelease first n = (s.releaseRecords n).reply .ok
      (be 1 (s.stored - n) ++ be 4 (((s.jnu.journal.drop n).head?.map Record.seq).getD 0)) := by
  have inRange : ¬ (n = 0 ∨ 64 < n) := by omega
  rw [State.takeJournalRelease, if_neg inRange, if_neg (not_not_intro oldest), if_neg fits.not_gt]
  simp only [State.releaseRecords_stored, State.oldestSeq, State.releaseRecords_journal]

end

/-! ### The command -/

section
variable {s : State} {lane tag : Nat}

/-- An owner's refusal leaves nothing but its reply. -/
theorem State.refusal_settles (settled : s.Settled) (r : Request) (c : Status) :
    ((s.taking lane tag r).reply c []).settle = s.quiet.sends lane tag r c [] :=
  State.reply_settles (u := s.quiet) settled lane tag r c [] rfl rfl rfl rfl (fun _ => rfl) fun free =>
    (settled.line free).1

variable {first n : Nat}

/-- STARTING refuses JOURNAL_RELEASE at the gate (R200). -/
theorem exec_journalRelease_starting (settled : s.Settled) (empty : s.lki.hold = []) (starting : s.part = .starting) :
    exec (.journalRelease lane tag first n) s =
      .next (s.quiet.sends lane tag (.journalRelease first n) .serviceState []) := by
  rw [exec_of_carriage s (x := ⟨lane, tag, .journalRelease first n⟩) rfl]
  exact State.run_gated settled lane tag _ _ empty (Nat.zero_le _)
    (by simp [State.gate, State.taking, requestCode, starting])

/-- Past STARTING it reaches its owner, in QUIESCED too (R200). -/
theorem exec_journalRelease (empty : s.lki.hold = []) (run : s.part ≠ .starting) :
    exec (.journalRelease lane tag first n) s =
      .next ((s.taking lane tag (.journalRelease first n)).takeJournalRelease first n).settle := by
  rw [exec_of_carriage s (x := ⟨lane, tag, .journalRelease first n⟩) rfl]
  exact State.run_gate lane tag _ empty (Nat.zero_le _) (by simp [State.gate, State.taking, requestCode, run])

theorem exec_journalRelease_refused (settled : s.Settled) (empty : s.lki.hold = []) (run : s.part ≠ .starting)
    {c : Status} (refused : (s.taking lane tag (.journalRelease first n)).takeJournalRelease first n =
      (s.taking lane tag (.journalRelease first n)).reply c []) :
    exec (.journalRelease lane tag first n) s =
      .next (s.quiet.sends lane tag (.journalRelease first n) c []) := by
  rw [exec_journalRelease empty run, refused, State.refusal_settles settled]

theorem exec_journalRelease_taken (settled : s.Settled) (empty : s.lki.hold = []) (run : s.part ≠ .starting)
    (lo : 1 ≤ n) (hi : n ≤ 64) (oldest : s.jnu.journal.head?.map Record.seq = some first) (fits : n ≤ s.stored) :
    exec (.journalRelease lane tag first n) s = .next (State.sends
      { s.quiet with jnu := { s.jnu with
        journal := s.jnu.journal.drop n
        armed := s.jnu.armed || decide (s.stored - n < s.jnu.inForce)
        waitTimer := if n = s.stored then .held s.jnu.waitTime else s.jnu.waitTimer } }
      lane tag (.journalRelease first n) .ok
      (be 1 (s.stored - n) ++ be 4 (((s.jnu.journal.drop n).head?.map Record.seq).getD 0))) := by
  rw [exec_journalRelease empty run,
    State.takeJournalRelease_taken (s := s.taking lane tag (.journalRelease first n)) lo hi oldest fits,
    ← State.releaseRecords_jnu run fits]
  exact congrArg _ (State.reply_settles (u := { s.quiet with jnu := (s.releaseRecords n).jnu }) settled lane tag _ _ _
    rfl rfl rfl rfl (fun _ => rfl) fun free => (settled.line free).1)

end

/-- Settles O52: the gate's refusal, R177's three checks, and the release itself. -/
theorem journalReleaseRemovesTheOldest : Obligations.JournalReleaseRemovesTheOldest := by
  intro s lane tag first n settled empty
  refine ⟨exec_journalRelease_starting settled empty, fun run bad => ?range, fun run lo hi other => ?mismatch,
    fun run lo hi oldest above => ?above, exec_journalRelease_taken settled empty⟩
  case range => exact exec_journalRelease_refused settled empty run (State.takeJournalRelease_outOfRange bad)
  case mismatch => exact exec_journalRelease_refused settled empty run (State.takeJournalRelease_mismatch lo hi other)
  case above =>
    exact exec_journalRelease_refused settled empty run (State.takeJournalRelease_aboveStored lo hi oldest above)

end Sys2Proof.Machine
end
